-- ==== Sys2Proof/Word.lean ====
section
/-! DEFINITION. Word: the bytes, strings and bit strings of the CORE (spec 00_scope.md R10, R11), the range of the drawn sequence
id (R8), the time sample (R36) and the number that a numeric register of an encode operand holds (R31, R33). -/

namespace Sys2Proof

/-- A byte, R10. -/
abbrev Byte := BitVec 8

/-- A string: a finite sequence of bytes, the first byte being index 0 (R10). -/
abbrev Bytes := List (BitVec 8)

/-- A bit string: offset 0 is the head of the list (R11). -/
abbrev Bits := List Bool

/-- SEQ_LO, R8: the least sequence id that an encode draws. -/
abbrev Config.seqLo : Nat := 1

/-- SEQ_HI, R8: the greatest sequence id that an encode draws. -/
abbrev Config.seqHi : Nat := 9

/-- A sample of `time_ms`, R36: an unsigned number of W_TIME bits. W_TIME is a parameter of the machine (R9), so a sample is a
number and WellFormed says that it fits (log 9). -/
abbrev Time := Nat

/-- A numeric register of an encode operand, R31, R33: a two's-complement number of W_REC bits. W_REC is a parameter of the machine
(R9), so the register holds the number and WellFormed says that it fits (log 9). -/
abbrev RecInt := Int

end Sys2Proof
end

