-- ==== Sys2Proof/Syntax.lean ====
section
/-! DEFINITION. Syntax: the operand forms of the CORE (spec 10_state.md R22, R23, R31, R33, R34, R36, R37), the commands a
port holds, and `Instr`, one constructor per row of spec/opcode_table.json. -/

namespace Sys2Proof

/-- A key of the reassembly table, R23: `hasId` is the bit `has_id`; the sentinel key is `(0, "")`. -/
structure Key where
  hasId : Bool
  id : Bytes
  deriving DecidableEq, Repr, Inhabited

/-- An entry of the reassembly table, R22. `parts` is the partial map from part index to fragment, as a list of pairs in
one canonical form (indices strictly rising). -/
structure Entry where
  key : Key
  total : Nat
  parts : List (Nat × Bytes)
  fill : Fin 8
  created : Time
  deriving DecidableEq, Repr, Inhabited

/-- A numeric register of an encode operand that has a presence bit (R31, R33): when `present` is false the value is not
looked at. -/
structure OptReg where
  present : Bool
  value : RecInt
  deriving DecidableEq, Repr, Inhabited

/-- The Position record as an encode reads it, R31. -/
structure PosOperand where
  msgType : RecInt
  repeatInd : RecInt
  mmsi : RecInt
  navStatus : RecInt
  rot : OptReg
  sog : OptReg
  posAcc : RecInt
  lon : OptReg
  lat : OptReg
  cog : OptReg
  heading : OptReg
  utcSec : OptReg
  maneuver : RecInt
  raim : RecInt
  radio : RecInt
  channel : Bytes
  deriving DecidableEq, Repr, Inhabited

/-- The Static record as an encode reads it, R33. A text operand (R34) is its bytes; its length is theirs. -/
structure StatOperand where
  repeatInd : RecInt
  mmsi : RecInt
  aisVersion : RecInt
  imo : RecInt
  callsign : Bytes
  name : Bytes
  shipType : RecInt
  toBow : RecInt
  toStern : RecInt
  toPort : RecInt
  toStarboard : RecInt
  epfd : RecInt
  etaMonth : OptReg
  etaDay : OptReg
  etaHour : OptReg
  etaMinute : OptReg
  draught : RecInt
  destination : Bytes
  dteAvailable : BitVec 1
  channel : Bytes
  deriving DecidableEq, Repr, Inhabited

/-- The sequence-id draw, R37 and U9: a type with exactly the values SEQ_LO to SEQ_HI of R8, held as the distance from SEQ_LO
(log 19). -/
structure SeqDraw where
  above : Fin (Config.seqHi - Config.seqLo + 1)
  deriving DecidableEq, Repr, Inhabited

/-- The two directions in which a row of the payload alphabet or the text alphabet is used: `rx` from the wire into BITS or a
text, `tx` the inverse (R170 and R176, R192 and R196; log 15). -/
inductive Dir
  | rx | tx
  deriving DecidableEq, Repr, Inhabited

/-- How a message-type row is used (log 16): `rx rest` is a received message whose bits after the six type bits are `rest`;
`tx op` is a record of this type presented to the Position encoder. -/
inductive PosUse
  | rx (rest : Bits)
  | tx (op : PosOperand)
  deriving DecidableEq, Repr, Inhabited

/-- As `PosUse`, for type 5, whose record is the Static one. -/
inductive StatUse
  | rx (rest : Bits)
  | tx (op : StatOperand)
  deriving DecidableEq, Repr, Inhabited

/-- The names of the micro-operations, the rows of format MICRO: they have no encoding in the table, so a command selects one
by its name (log 4). -/
inductive Micro
  | chkXor
  | chkHex2
  | chkVerify
  | parseFrame
  | parseSplit
  | parseInt
  | parseTotal
  | parsePart
  | parseSeq
  | parseChan
  | parsePayload
  | parseFill
  | parseCksum
  | parse
  | rsmBypass
  | rsmKey
  | rsmLookup
  | rsmCreate
  | rsmStore
  | rsmFill
  | rsmCount
  | rsmComplete
  | rsmCheck
  | rsmJoin
  | rsm
  | rsmExpire
  | rsmSweep
  | armDec6
  | armUnpack
  | armStrip
  | armDecode
  | armPad6
  | armEnc6
  | armPack
  | armEncode
  | fldGetu
  | fldGets
  | fldGett
  | fldPutu
  | fldPuts
  | fldPutt
  | fldType
  | posDecode
  | posEncode
  | statDecode
  | statEncode
  | emtPad
  | emtChunk
  | emtFill
  | emtSeq
  | emtChan
  | emtLine
  | emtCksum
  | emt
  | decodePayload
  deriving DecidableEq, Repr, Inhabited

/-- The code part of a command, one constructor per format of the opcode table with the table's own width (R85, R72, R81, R79,
R80, R86). `unassigned` is a code word that no row has. -/
inductive Code
  | cmd (k : BitVec 3)
  | sentence (tag : BitVec 48)
  | msg (ty : BitVec 6)
  | armor (c : BitVec 8)
  | text (v : BitVec 6)
  | kind (k : BitVec 2)
  | cause (k : BitVec 4)
  | micro (m : Micro)
  | unassigned (w : Nat)
  deriving DecidableEq, Repr, Inhabited

/-- One raw operand that accompanies a code. Operands are not packed into the code (note of the table's CMD rows, R87). A key is
presented by its id, which determines it (R23). -/
inductive Arg
  | str (b : Bytes)
  | byte (c : Byte)
  | bits (b : Bits)
  | num (n : Nat)
  | int (z : Int)
  | reg (v : RecInt)
  | time (t : Time)
  | key (id : Bytes)
  | entry (e : Entry)
  | dir (d : Dir)
  | draw (n : Nat)
  | pos (op : PosOperand)
  | stat (op : StatOperand)
  deriving DecidableEq, Repr, Inhabited

/-- A command as it stands in the port: a code and the operands beside it (log 2). -/
structure Command where
  code : Code
  args : List Arg
  deriving DecidableEq, Repr, Inhabited

/-- The instructions: one constructor per row of spec/opcode_table.json. Those with operands come
first (Lean's compiler numbers at most 244 constructors that have fields). -/
inductive Instr
  -- host operations, R300 to R306
  | decode (line : Bytes) (t : Time)
  | encpos (op : PosOperand) (d : SeqDraw)
  | encstat (op : StatOperand) (d : SeqDraw)
  | sweep (t : Time)
  -- sentence tags, R72; `rest` is the line after the tag
  | aivdm (rest : Bytes)
  | aivdo (rest : Bytes)
  -- message types, R81, R82
  | msgtype0 (u : PosUse)
  | msgtype1 (u : PosUse)
  | msgtype2 (u : PosUse)
  | msgtype3 (u : PosUse)
  | msgtype4 (u : PosUse)
  | msgtype5 (u : StatUse)
  | msgtype6 (u : PosUse)
  | msgtype7 (u : PosUse)
  | msgtype8 (u : PosUse)
  | msgtype9 (u : PosUse)
  | msgtype10 (u : PosUse)
  | msgtype11 (u : PosUse)
  | msgtype12 (u : PosUse)
  | msgtype13 (u : PosUse)
  | msgtype14 (u : PosUse)
  | msgtype15 (u : PosUse)
  | msgtype16 (u : PosUse)
  | msgtype17 (u : PosUse)
  | msgtype18 (u : PosUse)
  | msgtype19 (u : PosUse)
  | msgtype20 (u : PosUse)
  | msgtype21 (u : PosUse)
  | msgtype22 (u : PosUse)
  | msgtype23 (u : PosUse)
  | msgtype24 (u : PosUse)
  | msgtype25 (u : PosUse)
  | msgtype26 (u : PosUse)
  | msgtype27 (u : PosUse)
  | msgtype28 (u : PosUse)
  | msgtype29 (u : PosUse)
  | msgtype30 (u : PosUse)
  | msgtype31 (u : PosUse)
  | msgtype32 (u : PosUse)
  | msgtype33 (u : PosUse)
  | msgtype34 (u : PosUse)
  | msgtype35 (u : PosUse)
  | msgtype36 (u : PosUse)
  | msgtype37 (u : PosUse)
  | msgtype38 (u : PosUse)
  | msgtype39 (u : PosUse)
  | msgtype40 (u : PosUse)
  | msgtype41 (u : PosUse)
  | msgtype42 (u : PosUse)
  | msgtype43 (u : PosUse)
  | msgtype44 (u : PosUse)
  | msgtype45 (u : PosUse)
  | msgtype46 (u : PosUse)
  | msgtype47 (u : PosUse)
  | msgtype48 (u : PosUse)
  | msgtype49 (u : PosUse)
  | msgtype50 (u : PosUse)
  | msgtype51 (u : PosUse)
  | msgtype52 (u : PosUse)
  | msgtype53 (u : PosUse)
  | msgtype54 (u : PosUse)
  | msgtype55 (u : PosUse)
  | msgtype56 (u : PosUse)
  | msgtype57 (u : PosUse)
  | msgtype58 (u : PosUse)
  | msgtype59 (u : PosUse)
  | msgtype60 (u : PosUse)
  | msgtype61 (u : PosUse)
  | msgtype62 (u : PosUse)
  | msgtype63 (u : PosUse)
  -- payload characters, R79; the name holds the byte
  | armchr30 (d : Dir)
  | armchr31 (d : Dir)
  | armchr32 (d : Dir)
  | armchr33 (d : Dir)
  | armchr34 (d : Dir)
  | armchr35 (d : Dir)
  | armchr36 (d : Dir)
  | armchr37 (d : Dir)
  | armchr38 (d : Dir)
  | armchr39 (d : Dir)
  | armchr3A (d : Dir)
  | armchr3B (d : Dir)
  | armchr3C (d : Dir)
  | armchr3D (d : Dir)
  | armchr3E (d : Dir)
  | armchr3F (d : Dir)
  | armchr40 (d : Dir)
  | armchr41 (d : Dir)
  | armchr42 (d : Dir)
  | armchr43 (d : Dir)
  | armchr44 (d : Dir)
  | armchr45 (d : Dir)
  | armchr46 (d : Dir)
  | armchr47 (d : Dir)
  | armchr48 (d : Dir)
  | armchr49 (d : Dir)
  | armchr4A (d : Dir)
  | armchr4B (d : Dir)
  | armchr4C (d : Dir)
  | armchr4D (d : Dir)
  | armchr4E (d : Dir)
  | armchr4F (d : Dir)
  | armchr50 (d : Dir)
  | armchr51 (d : Dir)
  | armchr52 (d : Dir)
  | armchr53 (d : Dir)
  | armchr54 (d : Dir)
  | armchr55 (d : Dir)
  | armchr56 (d : Dir)
  | armchr57 (d : Dir)
  | armchr60 (d : Dir)
  | armchr61 (d : Dir)
  | armchr62 (d : Dir)
  | armchr63 (d : Dir)
  | armchr64 (d : Dir)
  | armchr65 (d : Dir)
  | armchr66 (d : Dir)
  | armchr67 (d : Dir)
  | armchr68 (d : Dir)
  | armchr69 (d : Dir)
  | armchr6A (d : Dir)
  | armchr6B (d : Dir)
  | armchr6C (d : Dir)
  | armchr6D (d : Dir)
  | armchr6E (d : Dir)
  | armchr6F (d : Dir)
  | armchr70 (d : Dir)
  | armchr71 (d : Dir)
  | armchr72 (d : Dir)
  | armchr73 (d : Dir)
  | armchr74 (d : Dir)
  | armchr75 (d : Dir)
  | armchr76 (d : Dir)
  | armchr77 (d : Dir)
  -- text characters, R80; the name holds the group value
  | txtchr00 (d : Dir)
  | txtchr01 (d : Dir)
  | txtchr02 (d : Dir)
  | txtchr03 (d : Dir)
  | txtchr04 (d : Dir)
  | txtchr05 (d : Dir)
  | txtchr06 (d : Dir)
  | txtchr07 (d : Dir)
  | txtchr08 (d : Dir)
  | txtchr09 (d : Dir)
  | txtchr10 (d : Dir)
  | txtchr11 (d : Dir)
  | txtchr12 (d : Dir)
  | txtchr13 (d : Dir)
  | txtchr14 (d : Dir)
  | txtchr15 (d : Dir)
  | txtchr16 (d : Dir)
  | txtchr17 (d : Dir)
  | txtchr18 (d : Dir)
  | txtchr19 (d : Dir)
  | txtchr20 (d : Dir)
  | txtchr21 (d : Dir)
  | txtchr22 (d : Dir)
  | txtchr23 (d : Dir)
  | txtchr24 (d : Dir)
  | txtchr25 (d : Dir)
  | txtchr26 (d : Dir)
  | txtchr27 (d : Dir)
  | txtchr28 (d : Dir)
  | txtchr29 (d : Dir)
  | txtchr30 (d : Dir)
  | txtchr31 (d : Dir)
  | txtchr32 (d : Dir)
  | txtchr33 (d : Dir)
  | txtchr34 (d : Dir)
  | txtchr35 (d : Dir)
  | txtchr36 (d : Dir)
  | txtchr37 (d : Dir)
  | txtchr38 (d : Dir)
  | txtchr39 (d : Dir)
  | txtchr40 (d : Dir)
  | txtchr41 (d : Dir)
  | txtchr42 (d : Dir)
  | txtchr43 (d : Dir)
  | txtchr44 (d : Dir)
  | txtchr45 (d : Dir)
  | txtchr46 (d : Dir)
  | txtchr47 (d : Dir)
  | txtchr48 (d : Dir)
  | txtchr49 (d : Dir)
  | txtchr50 (d : Dir)
  | txtchr51 (d : Dir)
  | txtchr52 (d : Dir)
  | txtchr53 (d : Dir)
  | txtchr54 (d : Dir)
  | txtchr55 (d : Dir)
  | txtchr56 (d : Dir)
  | txtchr57 (d : Dir)
  | txtchr58 (d : Dir)
  | txtchr59 (d : Dir)
  | txtchr60 (d : Dir)
  | txtchr61 (d : Dir)
  | txtchr62 (d : Dir)
  | txtchr63 (d : Dir)
  -- micro-operations, files 40 to 47
  | chkXor (body : Bytes)
  | chkHex2 (h : Byte) (l : Byte)
  | chkVerify (body : Bytes)
  | parseSplit (body : Bytes)
  | parseInt (str : Bytes)
  | parseTotal (f : Bytes)
  | parsePart (f : Bytes)
  | parseSeq (f : Bytes)
  | parseChan (f : Bytes)
  | parsePayload (f : Bytes)
  | parseFill (f : Bytes)
  | parseCksum (h : Byte) (l : Byte)
  | parse (line : Bytes)
  | rsmBypass (t : Time)
  | rsmLookup (k : Key)
  | rsmCreate (k : Key) (t : Time)
  | rsmStore (k : Key)
  | rsmFill (k : Key)
  | rsmCount (k : Key)
  | rsmComplete (k : Key)
  | rsmCheck (e : Entry)
  | rsmJoin (e : Entry)
  | rsm (t : Time)
  | rsmExpire (t : Time)
  | rsmSweep (t : Time)
  | armDec6 (c : Byte)
  | armEnc6 (v : Int)
  | fldGetu (o : Nat) (w : Nat)
  | fldGets (o : Nat) (w : Nat)
  | fldGett (o : Nat) (n : Nat)
  | fldPutu (v : RecInt) (w : Nat)
  | fldPuts (v : RecInt) (w : Nat)
  | fldPutt (text : Bytes) (n : Nat)
  | posEncode (op : PosOperand)
  | statEncode (op : StatOperand)
  | emtChunk (p : Bytes)
  | emtFill (n : Nat)
  | emtSeq (n : Nat) (d : SeqDraw)
  | emtChan (c : Bytes)
  | emtLine (n : Nat) (i : Nat) (seqId : Bytes) (ch : Byte) (chunk : Bytes) (f : Nat)
  | emtCksum (body : Bytes)
  | emt (c : Bytes) (d : SeqDraw)
  -- host operations, R300 to R306 (no operands)
  | nop
  | reserved101
  | reserved110
  | reserved111
  -- response kinds, R86 (no operands)
  | kindNone
  | kindPos
  | kindStat
  | kindLines
  -- response causes, R86, R322 (no operands)
  | causeOk
  | causeBuffered
  | causeDropGrammar
  | causeDropChecksum
  | causeDropShort
  | causeDropType
  | causeDropIncomplete
  | causeDropLimit
  | causeDropCapacity
  | causeEncSignedRange
  | causeEncUnsignedRange
  | causeEncType
  | causeEncChannel
  | causeEncArmorRange
  | causeIllegalOp
  | causeReserved15
  -- micro-operations, files 40 to 47 (no operands)
  | parseFrame
  | rsmKey
  | armUnpack
  | armStrip
  | armDecode
  | armPad6
  | armPack
  | armEncode
  | fldType
  | posDecode
  | statDecode
  | emtPad
  | decodePayload
  deriving DecidableEq, Repr

end Sys2Proof
end

