-- ==== Sys2Proof/Machine/Registers.lean ====
section
/-! DEFINITION. Registers: the response (spec 10_state.md R39, 30_encoding.md R86, 47_host_operations.md R300), the record
registers as a decode writes them (R30, R32) and the transient registers (R28, R29, R35). Types only. -/

namespace Sys2Proof.Machine

/-- `RESP.kind`, R86. -/
inductive Kind
  | none | pos | stat | lines
  deriving DecidableEq, Repr, Inhabited

/-- `RESP.cause`, R86 and R322. Cause 15 is reserved and never produced, so it is not contained (U15; log 18). -/
inductive Cause
  | ok | buffered
  | dropGrammar | dropChecksum | dropShort | dropType | dropIncomplete | dropLimit | dropCapacity
  | encSignedRange | encUnsignedRange | encType | encChannel | encArmorRange
  | illegalOp
  deriving DecidableEq, Repr, Inhabited

/-- The Position record as `POS.DECODE` writes it, R30: registers of the table's widths; `rot`, `lon` and `lat` are two's
complement (read them with `BitVec.toInt`; log 24). -/
structure PosRecord where
  msgType : BitVec 6
  repeatInd : BitVec 2
  mmsi : BitVec 30
  navStatus : BitVec 4
  rot : BitVec 8
  sog : BitVec 10
  posAcc : BitVec 1
  lon : BitVec 28
  lat : BitVec 27
  cog : BitVec 12
  heading : BitVec 9
  utcSec : BitVec 6
  maneuver : BitVec 2
  raim : BitVec 1
  radio : BitVec 19
  channel : Byte
  deriving DecidableEq, Repr, Inhabited

/-- The Static record as `STAT.DECODE` writes it, R32. A text (R34) is its bytes; its length is theirs. -/
structure StatRecord where
  msgType : BitVec 6
  repeatInd : BitVec 2
  mmsi : BitVec 30
  aisVersion : BitVec 2
  imo : BitVec 30
  callsign : Bytes
  name : Bytes
  shipType : BitVec 8
  toBow : BitVec 9
  toStern : BitVec 9
  toPort : BitVec 6
  toStarboard : BitVec 6
  epfd : BitVec 4
  etaMonth : BitVec 4
  etaDay : BitVec 5
  etaHour : BitVec 5
  etaMinute : BitVec 6
  draught : BitVec 8
  destination : Bytes
  dteAvailable : BitVec 1
  channel : Byte
  deriving DecidableEq, Repr, Inhabited

/-- The value part of a response, R300. -/
inductive RespValue
  | nothing
  | pos (r : PosRecord)
  | stat (r : StatRecord)
  | lines (l : List Bytes)
  | count (n : Nat)
  deriving DecidableEq, Repr, Inhabited

/-- The response of the last operation, R39 and R300. -/
structure Response where
  kind : Kind
  cause : Cause
  value : RespValue
  deriving DecidableEq, Repr, Inhabited

/-- The value a micro-operation returns (the model's own register RET; log 5). `nothing` is also the pseudocode's `none`. -/
inductive Ret
  | nothing
  | nat (n : Nat)
  | int (z : Int)
  | truth (b : Bool)
  | byte (c : Byte)
  | str (s : Bytes)
  | strs (l : List Bytes)
  | frame (body : Bytes) (h l : Byte)
  | key (k : Key)
  | entry (e : Option Entry)
  deriving DecidableEq, Repr, Inhabited

/-- The transient registers, R28, R29, R30 to R33, R35, and the model's own RET and ACC (log 5). -/
structure Transients where
  line : Bytes
  tag : BitVec 1
  total : Nat
  part : Nat
  seq : Bytes
  chan : Byte
  payload : Bytes
  fill : Fin 8
  cksum : Byte
  bits : Bits
  out : List Bytes
  pos : PosRecord
  stat : StatRecord
  posOp : PosOperand
  statOp : StatOperand
  ret : Ret
  acc : Bytes
  deriving DecidableEq, Repr, Inhabited

end Sys2Proof.Machine
end

