-- ==== Sys2Proof/Config.lean ====
section
/-! DEFINITION. Config: the constants the source fixes (spec 00_scope.md R8), the open parameters (R9; log 9) and the free
values (log 7, log 12, log 13, log 14, log 30). The range of the drawn sequence id, also of R8, is in Word.lean, since a type of the
syntax depends on it. -/

namespace Sys2Proof.Config

/-- `EXPIRY_MS`, R8: the age in milliseconds at which an incomplete entry is evicted. -/
def expiryMs : Nat := 30000

/-- `CHUNK_MAX`, R8: the greatest number of payload characters in one emitted sentence. -/
def chunkMax : Nat := 60

/-- `POS_MIN_BITS`, R8. -/
def posMinBits : Nat := 168

/-- `STAT_MIN_BITS`, R8. -/
def statMinBits : Nat := 424

/-- `FILL_QUIRK`, R8: the fill count that the decode path treats as 0. -/
def fillQuirk : Nat := 6

/-- `TYPE_W`, R8: the width of the message-type field at offset 0. -/
def typeW : Nat := 6

/-- The greatest length of a channel operand, R31, R33. -/
def chanInMax : Nat := 255

/-- The open parameters, R9: SENT_MAX, PARTS_MAX and N_ENTRIES, which bound what the machine does, and W_TIME, W_REC and
TEXT_IN_MAX, which bound what its interface can present (U18). They stand in State as read-only configuration (R41; log 9). -/
structure Params where
  sentMax : Nat
  partsMax : Nat
  nEntries : Nat
  wTime : Nat
  wRec : Nat
  textInMax : Nat
  deriving DecidableEq, Repr, Inhabited

/-- The defaults of R9. -/
def Params.default : Params :=
  { sentMax := 82, partsMax := 9, nEntries := 16, wTime := 64, wRec := 32, textInMax := 255 }

/-- Free value: the content of the transient registers once the `n`-th operation has ended (R20, R44, U1: any value; log 7). -/
opaque freeTransients : Nat → Machine.Transients

/-- Free value: what `ARM.DEC6` gives for a byte outside the payload alphabet (R171, U3: a model proves nothing from it;
log 12). -/
opaque armorOutside : Byte → BitVec 6

/-- Free value: what a read of `w` bits at offset `o` gives when it does not lie inside the bit string (R57: not defined;
log 13). -/
opaque undefinedRead : Bits → Nat → Nat → Nat

/-- Free value: the string that `ARM.PACK` gives for a bit string whose length is no multiple of 6 (R177 states none; log 14). -/
opaque undefinedPack : Bits → Bytes

/-- Free value: the fragment that `RSM.JOIN` reads at an index its operand does not hold (R141 states none; log 14). -/
opaque missingFragment : Entry → Nat → Bytes

/-- Free value: what `FLD.GETU(o, 0)` gives (R190 asks for a width of at least 1 and states no result for 0; log 30). -/
opaque zeroWidthUnsigned : Bits → Nat → Nat

/-- Free value: what `FLD.GETS(o, 0)` gives (R191, R55: a sign bit needs a width of at least 1; log 30). -/
opaque zeroWidthSigned : Bits → Nat → Int

/-- Free value: whether a number passes the range test of `FLD.PUTS(v, 0)`, whose bounds R195 states with the power `w - 1` (log 30). -/
opaque zeroWidthFits : Int → Bool

/-- Free value: the chunks of the empty payload string (R281 asks for a length of at least 1 and states no result for 0; log 30). -/
opaque emptyChunks : List Bytes

end Sys2Proof.Config
end

