-- ==== Sys2Proof/WellFormed.lean ====
section
/-! DEFINITION. WellFormed: what an operand must satisfy for the interface to be able to present it (spec 10_state.md R23, R31,
R33, R34, R36, U18). Each check has a name; the decoder rejects by it. -/

namespace Sys2Proof

/-- Why a command is rejected by the decoder. -/
inductive DecodeError
  /-- the code word is no row of the opcode table -/
  | noSuchCode
  /-- the operands are not those of the row -/
  | operands
  /-- a sequence-id draw outside 1..9 (R37) -/
  | draw
  /-- a text operand longer than TEXT_IN_MAX (R34, U18) -/
  | textTooLong
  /-- a channel operand longer than 255 bytes (R31, R33, U18) -/
  | channelTooLong
  /-- a numeric register of an encode operand outside W_REC bits (R31, R33, U18) -/
  | regTooWide
  /-- a sample of `time_ms` outside W_TIME bits (R36) -/
  | timeTooWide
  /-- a pair that is no key: `has_id` and a non-empty id go together (R23) -/
  | badKey
  deriving DecidableEq, Repr, Inhabited

/-- The indices of a part map are strictly rising: the canonical form of `Entry.parts` (log 10). -/
def partsRising : List (Nat × Bytes) → Bool
  | [] => true
  | [_] => true
  | p :: q :: rest => decide (p.1 < q.1) && partsRising (q :: rest)

/-- R23: a key has an id exactly when its id is not empty. -/
def Key.wf (k : Key) : Bool := k.hasId == !k.id.isEmpty

def keyError (k : Key) : Option DecodeError := if k.wf then none else some .badKey

/-- R34: the text is at most TEXT_IN_MAX bytes long. -/
def textError (p : Config.Params) (b : Bytes) : Option DecodeError :=
  if b.length ≤ p.textInMax then none else some .textTooLong

def chanError (c : Bytes) : Option DecodeError :=
  if c.length ≤ Config.chanInMax then none else some .channelTooLong

/-- R36: an unsigned number of W_TIME bits. -/
def timeError (p : Config.Params) (t : Time) : Option DecodeError := if t < 2 ^ p.wTime then none else some .timeTooWide

/-- R31, R33: a two's-complement number of W_REC bits. R9 gives W_REC no least value and R55 defines two's complement from width 1 on;
at W_REC = 0 the numbers admitted are those of width 1, -1 and 0 (DESIGN CHOICE, log 9). -/
def regError (p : Config.Params) (v : RecInt) : Option DecodeError :=
  if -(2 ^ (p.wRec - 1)) ≤ v ∧ v < 2 ^ (p.wRec - 1) then none else some .regTooWide

/-- The first of these registers that does not fit. -/
def regsError (p : Config.Params) (vs : List RecInt) : Option DecodeError := vs.findSome? (regError p)

/-- The numeric registers of a Position operand, R31. -/
def PosOperand.numbers (op : PosOperand) : List RecInt :=
  [op.msgType, op.repeatInd, op.mmsi, op.navStatus, op.rot.value, op.sog.value, op.posAcc, op.lon.value, op.lat.value,
   op.cog.value, op.heading.value, op.utcSec.value, op.maneuver, op.raim, op.radio]

/-- The numeric registers of a Static operand, R33. -/
def StatOperand.numbers (op : StatOperand) : List RecInt :=
  [op.repeatInd, op.mmsi, op.aisVersion, op.imo, op.shipType, op.toBow, op.toStern, op.toPort, op.toStarboard, op.epfd,
   op.etaMonth.value, op.etaDay.value, op.etaHour.value, op.etaMinute.value, op.draught]

/-- R31: the numeric registers fit W_REC bits and the channel string has length 0 to 255. -/
def posOperandError (p : Config.Params) (op : PosOperand) : Option DecodeError :=
  (regsError p op.numbers).or (chanError op.channel)

/-- R33, R34: the numeric registers fit, the three texts and the channel are short enough. -/
def statOperandError (p : Config.Params) (op : StatOperand) : Option DecodeError :=
  (regsError p op.numbers).or ((textError p op.callsign).or ((textError p op.name).or ((textError p op.destination).or
    (chanError op.channel))))

def posUseError (p : Config.Params) : PosUse → Option DecodeError
  | .rx _ => none
  | .tx op => posOperandError p op

def statUseError (p : Config.Params) : StatUse → Option DecodeError
  | .rx _ => none
  | .tx op => statOperandError p op

/-- The first check an instruction fails, if any, on a machine with these parameters. -/
def wfError (p : Config.Params) : Instr → Option DecodeError
  | .decode _ t => timeError p t
  | .sweep t => timeError p t
  | .rsmBypass t => timeError p t
  | .rsm t => timeError p t
  | .rsmExpire t => timeError p t
  | .rsmSweep t => timeError p t
  | .encpos op _ => posOperandError p op
  | .encstat op _ => statOperandError p op
  | .msgtype0 u => posUseError p u
  | .msgtype1 u => posUseError p u
  | .msgtype2 u => posUseError p u
  | .msgtype3 u => posUseError p u
  | .msgtype4 u => posUseError p u
  | .msgtype5 u => statUseError p u
  | .msgtype6 u => posUseError p u
  | .msgtype7 u => posUseError p u
  | .msgtype8 u => posUseError p u
  | .msgtype9 u => posUseError p u
  | .msgtype10 u => posUseError p u
  | .msgtype11 u => posUseError p u
  | .msgtype12 u => posUseError p u
  | .msgtype13 u => posUseError p u
  | .msgtype14 u => posUseError p u
  | .msgtype15 u => posUseError p u
  | .msgtype16 u => posUseError p u
  | .msgtype17 u => posUseError p u
  | .msgtype18 u => posUseError p u
  | .msgtype19 u => posUseError p u
  | .msgtype20 u => posUseError p u
  | .msgtype21 u => posUseError p u
  | .msgtype22 u => posUseError p u
  | .msgtype23 u => posUseError p u
  | .msgtype24 u => posUseError p u
  | .msgtype25 u => posUseError p u
  | .msgtype26 u => posUseError p u
  | .msgtype27 u => posUseError p u
  | .msgtype28 u => posUseError p u
  | .msgtype29 u => posUseError p u
  | .msgtype30 u => posUseError p u
  | .msgtype31 u => posUseError p u
  | .msgtype32 u => posUseError p u
  | .msgtype33 u => posUseError p u
  | .msgtype34 u => posUseError p u
  | .msgtype35 u => posUseError p u
  | .msgtype36 u => posUseError p u
  | .msgtype37 u => posUseError p u
  | .msgtype38 u => posUseError p u
  | .msgtype39 u => posUseError p u
  | .msgtype40 u => posUseError p u
  | .msgtype41 u => posUseError p u
  | .msgtype42 u => posUseError p u
  | .msgtype43 u => posUseError p u
  | .msgtype44 u => posUseError p u
  | .msgtype45 u => posUseError p u
  | .msgtype46 u => posUseError p u
  | .msgtype47 u => posUseError p u
  | .msgtype48 u => posUseError p u
  | .msgtype49 u => posUseError p u
  | .msgtype50 u => posUseError p u
  | .msgtype51 u => posUseError p u
  | .msgtype52 u => posUseError p u
  | .msgtype53 u => posUseError p u
  | .msgtype54 u => posUseError p u
  | .msgtype55 u => posUseError p u
  | .msgtype56 u => posUseError p u
  | .msgtype57 u => posUseError p u
  | .msgtype58 u => posUseError p u
  | .msgtype59 u => posUseError p u
  | .msgtype60 u => posUseError p u
  | .msgtype61 u => posUseError p u
  | .msgtype62 u => posUseError p u
  | .msgtype63 u => posUseError p u
  | .rsmLookup k => keyError k
  | .rsmCreate k t => (keyError k).or (timeError p t)
  | .rsmStore k => keyError k
  | .rsmFill k => keyError k
  | .rsmCount k => keyError k
  | .rsmComplete k => keyError k
  | .fldPutu v _ => regError p v
  | .fldPuts v _ => regError p v
  | .fldPutt text _ => textError p text
  | .posEncode op => posOperandError p op
  | .statEncode op => statOperandError p op
  | .emtChan c => chanError c
  | .emt c _ => chanError c
  | .rsmCheck _ | .rsmJoin _ | .fldGetu _ _ | .fldGets _ _ | .emtChunk _ | .emtLine _ _ _ _ _ _ => none
  | .nop | .reserved101 | .reserved110 | .reserved111 | .aivdm _ | .aivdo _ => none
  | .armchr30 _ | .armchr31 _ | .armchr32 _ | .armchr33 _ | .armchr34 _ | .armchr35 _ | .armchr36 _ | .armchr37 _ => none
  | .armchr38 _ | .armchr39 _ | .armchr3A _ | .armchr3B _ | .armchr3C _ | .armchr3D _ | .armchr3E _ | .armchr3F _ => none
  | .armchr40 _ | .armchr41 _ | .armchr42 _ | .armchr43 _ | .armchr44 _ | .armchr45 _ | .armchr46 _ | .armchr47 _ => none
  | .armchr48 _ | .armchr49 _ | .armchr4A _ | .armchr4B _ | .armchr4C _ | .armchr4D _ | .armchr4E _ | .armchr4F _ => none
  | .armchr50 _ | .armchr51 _ | .armchr52 _ | .armchr53 _ | .armchr54 _ | .armchr55 _ | .armchr56 _ | .armchr57 _ => none
  | .armchr60 _ | .armchr61 _ | .armchr62 _ | .armchr63 _ | .armchr64 _ | .armchr65 _ | .armchr66 _ | .armchr67 _ => none
  | .armchr68 _ | .armchr69 _ | .armchr6A _ | .armchr6B _ | .armchr6C _ | .armchr6D _ | .armchr6E _ | .armchr6F _ => none
  | .armchr70 _ | .armchr71 _ | .armchr72 _ | .armchr73 _ | .armchr74 _ | .armchr75 _ | .armchr76 _ | .armchr77 _ => none
  | .txtchr00 _ | .txtchr01 _ | .txtchr02 _ | .txtchr03 _ | .txtchr04 _ | .txtchr05 _ | .txtchr06 _ | .txtchr07 _ => none
  | .txtchr08 _ | .txtchr09 _ | .txtchr10 _ | .txtchr11 _ | .txtchr12 _ | .txtchr13 _ | .txtchr14 _ | .txtchr15 _ => none
  | .txtchr16 _ | .txtchr17 _ | .txtchr18 _ | .txtchr19 _ | .txtchr20 _ | .txtchr21 _ | .txtchr22 _ | .txtchr23 _ => none
  | .txtchr24 _ | .txtchr25 _ | .txtchr26 _ | .txtchr27 _ | .txtchr28 _ | .txtchr29 _ | .txtchr30 _ | .txtchr31 _ => none
  | .txtchr32 _ | .txtchr33 _ | .txtchr34 _ | .txtchr35 _ | .txtchr36 _ | .txtchr37 _ | .txtchr38 _ | .txtchr39 _ => none
  | .txtchr40 _ | .txtchr41 _ | .txtchr42 _ | .txtchr43 _ | .txtchr44 _ | .txtchr45 _ | .txtchr46 _ | .txtchr47 _ => none
  | .txtchr48 _ | .txtchr49 _ | .txtchr50 _ | .txtchr51 _ | .txtchr52 _ | .txtchr53 _ | .txtchr54 _ | .txtchr55 _ => none
  | .txtchr56 _ | .txtchr57 _ | .txtchr58 _ | .txtchr59 _ | .txtchr60 _ | .txtchr61 _ | .txtchr62 _ | .txtchr63 _ => none
  | .kindNone | .kindPos | .kindStat | .kindLines | .causeOk | .causeBuffered | .causeDropGrammar | .causeDropChecksum => none
  | .causeDropShort | .causeDropType | .causeDropIncomplete | .causeDropLimit | .causeDropCapacity | .causeEncSignedRange | .causeEncUnsignedRange | .causeEncType => none
  | .causeEncChannel | .causeEncArmorRange | .causeIllegalOp | .causeReserved15 | .chkXor _ | .chkHex2 _ _ | .chkVerify _ | .parseFrame => none
  | .parseSplit _ | .parseInt _ | .parseTotal _ | .parsePart _ | .parseSeq _ | .parseChan _ | .parsePayload _ | .parseFill _ => none
  | .parseCksum _ _ | .parse _ | .rsmKey | .armDec6 _ => none
  | .armUnpack | .armStrip | .armDecode | .armPad6 | .armEnc6 _ | .armPack | .armEncode | .fldGett _ _ => none
  | .fldType | .posDecode | .statDecode | .emtPad | .emtFill _ | .emtSeq _ _ | .emtCksum _ | .decodePayload => none

/-- An instruction that the interface of a machine with these parameters can present. -/
def WellFormed (p : Config.Params) (i : Instr) : Bool := (wfError p i).isNone

end Sys2Proof
end

