-- ==== Sys2Proof/Decode.lean ====
section
/-! DEFINITION. Decode: from a command of the port (a code of the opcode table with its operands beside it) to an instruction,
total, rejecting by name; then the encoder; then the reading of a table word (spec 30_encoding.md R72, R79, R80, R81, R85, R86,
47_host_operations.md R300; log 2, log 3). -/

namespace Sys2Proof

/-- The draw that an operand SEQ_LO to SEQ_HI stands for (R8, R37). -/
def SeqDraw.ofDigit (n : Nat) : Option SeqDraw :=
  if h : Config.seqLo ≤ n ∧ n ≤ Config.seqHi then some ⟨⟨n - Config.seqLo, by omega⟩⟩ else none

/-- The number of a draw, SEQ_LO to SEQ_HI (R8, R37). -/
def SeqDraw.digit (d : SeqDraw) : Nat := Config.seqLo + d.above.val

/-- The key with this id, R23: an empty id is that of the sentinel key. -/
def Key.ofId (id : Bytes) : Key := ⟨!id.isEmpty, id⟩

def withDraw (n : Nat) (f : SeqDraw → Instr) : Except DecodeError Instr :=
  match SeqDraw.ofDigit n with
  | some d => .ok (f d)
  | none => .error .draw

/-- The host operations, R85. -/
def decodeCmd (k : BitVec 3) (args : List Arg) : Except DecodeError Instr :=
  match k.toNat, args with
  | 0, [] => .ok (.nop)
  | 1, [.str line, .time t] => .ok (.decode line t)
  | 2, [.pos op, .draw d] => withDraw d (Instr.encpos op)
  | 3, [.stat op, .draw d] => withDraw d (Instr.encstat op)
  | 4, [.time t] => .ok (.sweep t)
  | 5, [] => .ok (.reserved101)
  | 6, [] => .ok (.reserved110)
  | 7, [] => .ok (.reserved111)
  | _, _ => .error .operands

/-- The two sentence tags as 48-bit patterns, byte 0 of the sentence most significant (R72). -/
def tagAivdm : BitVec 48 := 0x21414956444D#48
def tagAivdo : BitVec 48 := 0x21414956444F#48

/-- Sentences by tag, R72: any other tag has no row. -/
def decodeSentence (tag : BitVec 48) (args : List Arg) : Except DecodeError Instr :=
  if tag = tagAivdm then
    match args with
    | [.str rest] => .ok (.aivdm rest)
    | _ => .error .operands
  else if tag = tagAivdo then
    match args with
    | [.str rest] => .ok (.aivdo rest)
    | _ => .error .operands
  else .error .noSuchCode

/-- The message types whose record is presented to the Position encoder: every type but 5, in order of the type value, the
place of type 5 being empty (R81, R82). -/
def posTypeRows : List (Option (PosUse → Instr)) :=
  [some Instr.msgtype0, some Instr.msgtype1, some Instr.msgtype2, some Instr.msgtype3, some Instr.msgtype4, none,
   some Instr.msgtype6, some Instr.msgtype7, some Instr.msgtype8, some Instr.msgtype9, some Instr.msgtype10, some Instr.msgtype11,
   some Instr.msgtype12, some Instr.msgtype13, some Instr.msgtype14, some Instr.msgtype15] ++
  [some Instr.msgtype16, some Instr.msgtype17, some Instr.msgtype18, some Instr.msgtype19, some Instr.msgtype20, some Instr.msgtype21,
   some Instr.msgtype22, some Instr.msgtype23, some Instr.msgtype24, some Instr.msgtype25, some Instr.msgtype26, some Instr.msgtype27,
   some Instr.msgtype28, some Instr.msgtype29, some Instr.msgtype30, some Instr.msgtype31] ++
  [some Instr.msgtype32, some Instr.msgtype33, some Instr.msgtype34, some Instr.msgtype35, some Instr.msgtype36, some Instr.msgtype37,
   some Instr.msgtype38, some Instr.msgtype39, some Instr.msgtype40, some Instr.msgtype41, some Instr.msgtype42, some Instr.msgtype43,
   some Instr.msgtype44, some Instr.msgtype45, some Instr.msgtype46, some Instr.msgtype47] ++
  [some Instr.msgtype48, some Instr.msgtype49, some Instr.msgtype50, some Instr.msgtype51, some Instr.msgtype52, some Instr.msgtype53,
   some Instr.msgtype54, some Instr.msgtype55, some Instr.msgtype56, some Instr.msgtype57, some Instr.msgtype58, some Instr.msgtype59,
   some Instr.msgtype60, some Instr.msgtype61, some Instr.msgtype62, some Instr.msgtype63]

/-- Message types, R81: type 5 is the Static layout, every other type is presented with a Position operand on encode. -/
def decodeMsg (ty : BitVec 6) (args : List Arg) : Except DecodeError Instr :=
  match posTypeRows[ty.toNat]? with
  | some (some f) =>
    match args with
    | [.bits rest] => .ok (f (.rx rest))
    | [.pos op] => .ok (f (.tx op))
    | _ => .error .operands
  | some none =>
    match args with
    | [.bits rest] => .ok (.msgtype5 (.rx rest))
    | [.stat op] => .ok (.msgtype5 (.tx op))
    | _ => .error .operands
  | none => .error .noSuchCode

/-- The rows of the payload alphabet for the bytes 0x30 to 0x57, in byte order (R79). -/
def armorRowsLow : List (Dir → Instr) :=
  [Instr.armchr30, Instr.armchr31, Instr.armchr32, Instr.armchr33, Instr.armchr34, Instr.armchr35,
   Instr.armchr36, Instr.armchr37, Instr.armchr38, Instr.armchr39, Instr.armchr3A, Instr.armchr3B,
   Instr.armchr3C, Instr.armchr3D, Instr.armchr3E, Instr.armchr3F] ++
  [Instr.armchr40, Instr.armchr41, Instr.armchr42, Instr.armchr43, Instr.armchr44, Instr.armchr45,
   Instr.armchr46, Instr.armchr47, Instr.armchr48, Instr.armchr49, Instr.armchr4A, Instr.armchr4B,
   Instr.armchr4C, Instr.armchr4D, Instr.armchr4E, Instr.armchr4F] ++
  [Instr.armchr50, Instr.armchr51, Instr.armchr52, Instr.armchr53, Instr.armchr54, Instr.armchr55,
   Instr.armchr56, Instr.armchr57]

/-- The rows of the payload alphabet for the bytes 0x60 to 0x77, in byte order (R79). -/
def armorRowsHigh : List (Dir → Instr) :=
  [Instr.armchr60, Instr.armchr61, Instr.armchr62, Instr.armchr63, Instr.armchr64, Instr.armchr65,
   Instr.armchr66, Instr.armchr67, Instr.armchr68, Instr.armchr69, Instr.armchr6A, Instr.armchr6B,
   Instr.armchr6C, Instr.armchr6D, Instr.armchr6E, Instr.armchr6F] ++
  [Instr.armchr70, Instr.armchr71, Instr.armchr72, Instr.armchr73, Instr.armchr74, Instr.armchr75,
   Instr.armchr76, Instr.armchr77]

def armorRow (c : BitVec 8) : Option (Dir → Instr) :=
  if 0x60 ≤ c.toNat then armorRowsHigh[c.toNat - 0x60]?
  else if 0x30 ≤ c.toNat then armorRowsLow[c.toNat - 0x30]?
  else none

/-- Payload characters, R79: a byte outside the alphabet has no row. -/
def decodeArmor (c : BitVec 8) (args : List Arg) : Except DecodeError Instr :=
  match armorRow c with
  | some f =>
    match args with
    | [.dir d] => .ok (f d)
    | _ => .error .operands
  | none => .error .noSuchCode

/-- The rows of the text alphabet in order of the group value (R80). -/
def textRows : List (Dir → Instr) :=
  [Instr.txtchr00, Instr.txtchr01, Instr.txtchr02, Instr.txtchr03, Instr.txtchr04, Instr.txtchr05,
   Instr.txtchr06, Instr.txtchr07, Instr.txtchr08, Instr.txtchr09, Instr.txtchr10, Instr.txtchr11,
   Instr.txtchr12, Instr.txtchr13, Instr.txtchr14, Instr.txtchr15] ++
  [Instr.txtchr16, Instr.txtchr17, Instr.txtchr18, Instr.txtchr19, Instr.txtchr20, Instr.txtchr21,
   Instr.txtchr22, Instr.txtchr23, Instr.txtchr24, Instr.txtchr25, Instr.txtchr26, Instr.txtchr27,
   Instr.txtchr28, Instr.txtchr29, Instr.txtchr30, Instr.txtchr31] ++
  [Instr.txtchr32, Instr.txtchr33, Instr.txtchr34, Instr.txtchr35, Instr.txtchr36, Instr.txtchr37,
   Instr.txtchr38, Instr.txtchr39, Instr.txtchr40, Instr.txtchr41, Instr.txtchr42, Instr.txtchr43,
   Instr.txtchr44, Instr.txtchr45, Instr.txtchr46, Instr.txtchr47] ++
  [Instr.txtchr48, Instr.txtchr49, Instr.txtchr50, Instr.txtchr51, Instr.txtchr52, Instr.txtchr53,
   Instr.txtchr54, Instr.txtchr55, Instr.txtchr56, Instr.txtchr57, Instr.txtchr58, Instr.txtchr59,
   Instr.txtchr60, Instr.txtchr61, Instr.txtchr62, Instr.txtchr63]

/-- Text characters, R80. -/
def decodeText (v : BitVec 6) (args : List Arg) : Except DecodeError Instr :=
  match textRows[v.toNat]? with
  | some f =>
    match args with
    | [.dir d] => .ok (f d)
    | _ => .error .operands
  | none => .error .noSuchCode

/-- The response kinds in order of their codes (R86). -/
def kindRows : List Instr :=
  [.kindNone, .kindPos, .kindStat, .kindLines]

def decodeKind (k : BitVec 2) (args : List Arg) : Except DecodeError Instr :=
  match kindRows[k.toNat]?, args with
  | some i, [] => .ok i
  | some _, _ => .error .operands
  | none, _ => .error .noSuchCode

/-- The response causes in order of their codes (R86). -/
def causeRows : List Instr :=
  [.causeOk, .causeBuffered, .causeDropGrammar, .causeDropChecksum, .causeDropShort, .causeDropType,
   .causeDropIncomplete, .causeDropLimit, .causeDropCapacity, .causeEncSignedRange, .causeEncUnsignedRange, .causeEncType,
   .causeEncChannel, .causeEncArmorRange, .causeIllegalOp, .causeReserved15]

def decodeCause (k : BitVec 4) (args : List Arg) : Except DecodeError Instr :=
  match causeRows[k.toNat]?, args with
  | some i, [] => .ok i
  | some _, _ => .error .operands
  | none, _ => .error .noSuchCode

/-- The micro-operations, selected by name (log 4). -/
def decodeMicro (m : Micro) (args : List Arg) : Except DecodeError Instr :=
  match m with
  | .chkXor => match args with | [.str body] => .ok (.chkXor body) | _ => .error .operands
  | .chkHex2 => match args with | [.byte h, .byte l] => .ok (.chkHex2 h l) | _ => .error .operands
  | .chkVerify => match args with | [.str body] => .ok (.chkVerify body) | _ => .error .operands
  | .parseFrame => match args with | [] => .ok (.parseFrame) | _ => .error .operands
  | .parseSplit => match args with | [.str body] => .ok (.parseSplit body) | _ => .error .operands
  | .parseInt => match args with | [.str str] => .ok (.parseInt str) | _ => .error .operands
  | .parseTotal => match args with | [.str f] => .ok (.parseTotal f) | _ => .error .operands
  | .parsePart => match args with | [.str f] => .ok (.parsePart f) | _ => .error .operands
  | .parseSeq => match args with | [.str f] => .ok (.parseSeq f) | _ => .error .operands
  | .parseChan => match args with | [.str f] => .ok (.parseChan f) | _ => .error .operands
  | .parsePayload => match args with | [.str f] => .ok (.parsePayload f) | _ => .error .operands
  | .parseFill => match args with | [.str f] => .ok (.parseFill f) | _ => .error .operands
  | .parseCksum => match args with | [.byte h, .byte l] => .ok (.parseCksum h l) | _ => .error .operands
  | .parse => match args with | [.str line] => .ok (.parse line) | _ => .error .operands
  | .rsmBypass => match args with | [.time t] => .ok (.rsmBypass t) | _ => .error .operands
  | .rsmKey => match args with | [] => .ok (.rsmKey) | _ => .error .operands
  | .rsmLookup => match args with | [.key id] => .ok (.rsmLookup (.ofId id)) | _ => .error .operands
  | .rsmCreate => match args with | [.key id, .time t] => .ok (.rsmCreate (.ofId id) t) | _ => .error .operands
  | .rsmStore => match args with | [.key id] => .ok (.rsmStore (.ofId id)) | _ => .error .operands
  | .rsmFill => match args with | [.key id] => .ok (.rsmFill (.ofId id)) | _ => .error .operands
  | .rsmCount => match args with | [.key id] => .ok (.rsmCount (.ofId id)) | _ => .error .operands
  | .rsmComplete => match args with | [.key id] => .ok (.rsmComplete (.ofId id)) | _ => .error .operands
  | .rsmCheck => match args with | [.entry e] => .ok (.rsmCheck e) | _ => .error .operands
  | .rsmJoin => match args with | [.entry e] => .ok (.rsmJoin e) | _ => .error .operands
  | .rsm => match args with | [.time t] => .ok (.rsm t) | _ => .error .operands
  | .rsmExpire => match args with | [.time t] => .ok (.rsmExpire t) | _ => .error .operands
  | .rsmSweep => match args with | [.time t] => .ok (.rsmSweep t) | _ => .error .operands
  | .armDec6 => match args with | [.byte c] => .ok (.armDec6 c) | _ => .error .operands
  | .armUnpack => match args with | [] => .ok (.armUnpack) | _ => .error .operands
  | .armStrip => match args with | [] => .ok (.armStrip) | _ => .error .operands
  | .armDecode => match args with | [] => .ok (.armDecode) | _ => .error .operands
  | .armPad6 => match args with | [] => .ok (.armPad6) | _ => .error .operands
  | .armEnc6 => match args with | [.int v] => .ok (.armEnc6 v) | _ => .error .operands
  | .armPack => match args with | [] => .ok (.armPack) | _ => .error .operands
  | .armEncode => match args with | [] => .ok (.armEncode) | _ => .error .operands
  | .fldGetu => match args with | [.num o, .num w] => .ok (.fldGetu o w) | _ => .error .operands
  | .fldGets => match args with | [.num o, .num w] => .ok (.fldGets o w) | _ => .error .operands
  | .fldGett => match args with | [.num o, .num n] => .ok (.fldGett o n) | _ => .error .operands
  | .fldPutu => match args with | [.reg v, .num w] => .ok (.fldPutu v w) | _ => .error .operands
  | .fldPuts => match args with | [.reg v, .num w] => .ok (.fldPuts v w) | _ => .error .operands
  | .fldPutt => match args with | [.str text, .num n] => .ok (.fldPutt text n) | _ => .error .operands
  | .fldType => match args with | [] => .ok (.fldType) | _ => .error .operands
  | .posDecode => match args with | [] => .ok (.posDecode) | _ => .error .operands
  | .posEncode => match args with | [.pos op] => .ok (.posEncode op) | _ => .error .operands
  | .statDecode => match args with | [] => .ok (.statDecode) | _ => .error .operands
  | .statEncode => match args with | [.stat op] => .ok (.statEncode op) | _ => .error .operands
  | .emtPad => match args with | [] => .ok (.emtPad) | _ => .error .operands
  | .emtChunk => match args with | [.str p] => .ok (.emtChunk p) | _ => .error .operands
  | .emtFill => match args with | [.num n] => .ok (.emtFill n) | _ => .error .operands
  | .emtSeq => match args with | [.num n, .draw d] => withDraw d (Instr.emtSeq n) | _ => .error .operands
  | .emtChan => match args with | [.str c] => .ok (.emtChan c) | _ => .error .operands
  | .emtLine => match args with | [.num n, .num i, .str seqId, .byte ch, .str chunk, .num f] => .ok (.emtLine n i seqId ch chunk f) | _ => .error .operands
  | .emtCksum => match args with | [.str body] => .ok (.emtCksum body) | _ => .error .operands
  | .emt => match args with | [.str c, .draw d] => withDraw d (Instr.emt c) | _ => .error .operands
  | .decodePayload => match args with | [] => .ok (.decodePayload) | _ => .error .operands

/-- The instruction a command's code and operands spell, before the operand checks. -/
def decodeRaw (c : Command) : Except DecodeError Instr :=
  match c.code with
  | .cmd k => decodeCmd k c.args
  | .sentence tag => decodeSentence tag c.args
  | .msg ty => decodeMsg ty c.args
  | .armor b => decodeArmor b c.args
  | .text v => decodeText v c.args
  | .kind k => decodeKind k c.args
  | .cause k => decodeCause k c.args
  | .micro m => decodeMicro m c.args
  | .unassigned _ => .error .noSuchCode

/-- The decoder of a machine with these parameters: total on commands; what it answers is well formed, what it cannot answer it
rejects by name. -/
def decode (p : Config.Params) (c : Command) : Except DecodeError Instr :=
  match decodeRaw c with
  | .error e => .error e
  | .ok i =>
    match wfError p i with
    | some e => .error e
    | none => .ok i

/-- The operands of a message-type row. -/
def PosUse.args : PosUse → List Arg
  | .rx rest => [.bits rest]
  | .tx op => [.pos op]

def StatUse.args : StatUse → List Arg
  | .rx rest => [.bits rest]
  | .tx op => [.stat op]

/-- The encoder: the command of an instruction, each code written from the opcode table. -/
def encode : Instr → Command
  | .nop => ⟨.cmd 0b000#3, []⟩
  | .decode line t => ⟨.cmd 0b001#3, [.str line, .time t]⟩
  | .encpos op d => ⟨.cmd 0b010#3, [.pos op, .draw d.digit]⟩
  | .encstat op d => ⟨.cmd 0b011#3, [.stat op, .draw d.digit]⟩
  | .sweep t => ⟨.cmd 0b100#3, [.time t]⟩
  | .reserved101 => ⟨.cmd 0b101#3, []⟩
  | .reserved110 => ⟨.cmd 0b110#3, []⟩
  | .reserved111 => ⟨.cmd 0b111#3, []⟩
  | .aivdm rest => ⟨.sentence 0x21414956444D#48, [.str rest]⟩
  | .aivdo rest => ⟨.sentence 0x21414956444F#48, [.str rest]⟩
  | .msgtype0 u => ⟨.msg 0b000000#6, u.args⟩
  | .msgtype1 u => ⟨.msg 0b000001#6, u.args⟩
  | .msgtype2 u => ⟨.msg 0b000010#6, u.args⟩
  | .msgtype3 u => ⟨.msg 0b000011#6, u.args⟩
  | .msgtype4 u => ⟨.msg 0b000100#6, u.args⟩
  | .msgtype5 u => ⟨.msg 0b000101#6, u.args⟩
  | .msgtype6 u => ⟨.msg 0b000110#6, u.args⟩
  | .msgtype7 u => ⟨.msg 0b000111#6, u.args⟩
  | .msgtype8 u => ⟨.msg 0b001000#6, u.args⟩
  | .msgtype9 u => ⟨.msg 0b001001#6, u.args⟩
  | .msgtype10 u => ⟨.msg 0b001010#6, u.args⟩
  | .msgtype11 u => ⟨.msg 0b001011#6, u.args⟩
  | .msgtype12 u => ⟨.msg 0b001100#6, u.args⟩
  | .msgtype13 u => ⟨.msg 0b001101#6, u.args⟩
  | .msgtype14 u => ⟨.msg 0b001110#6, u.args⟩
  | .msgtype15 u => ⟨.msg 0b001111#6, u.args⟩
  | .msgtype16 u => ⟨.msg 0b010000#6, u.args⟩
  | .msgtype17 u => ⟨.msg 0b010001#6, u.args⟩
  | .msgtype18 u => ⟨.msg 0b010010#6, u.args⟩
  | .msgtype19 u => ⟨.msg 0b010011#6, u.args⟩
  | .msgtype20 u => ⟨.msg 0b010100#6, u.args⟩
  | .msgtype21 u => ⟨.msg 0b010101#6, u.args⟩
  | .msgtype22 u => ⟨.msg 0b010110#6, u.args⟩
  | .msgtype23 u => ⟨.msg 0b010111#6, u.args⟩
  | .msgtype24 u => ⟨.msg 0b011000#6, u.args⟩
  | .msgtype25 u => ⟨.msg 0b011001#6, u.args⟩
  | .msgtype26 u => ⟨.msg 0b011010#6, u.args⟩
  | .msgtype27 u => ⟨.msg 0b011011#6, u.args⟩
  | .msgtype28 u => ⟨.msg 0b011100#6, u.args⟩
  | .msgtype29 u => ⟨.msg 0b011101#6, u.args⟩
  | .msgtype30 u => ⟨.msg 0b011110#6, u.args⟩
  | .msgtype31 u => ⟨.msg 0b011111#6, u.args⟩
  | .msgtype32 u => ⟨.msg 0b100000#6, u.args⟩
  | .msgtype33 u => ⟨.msg 0b100001#6, u.args⟩
  | .msgtype34 u => ⟨.msg 0b100010#6, u.args⟩
  | .msgtype35 u => ⟨.msg 0b100011#6, u.args⟩
  | .msgtype36 u => ⟨.msg 0b100100#6, u.args⟩
  | .msgtype37 u => ⟨.msg 0b100101#6, u.args⟩
  | .msgtype38 u => ⟨.msg 0b100110#6, u.args⟩
  | .msgtype39 u => ⟨.msg 0b100111#6, u.args⟩
  | .msgtype40 u => ⟨.msg 0b101000#6, u.args⟩
  | .msgtype41 u => ⟨.msg 0b101001#6, u.args⟩
  | .msgtype42 u => ⟨.msg 0b101010#6, u.args⟩
  | .msgtype43 u => ⟨.msg 0b101011#6, u.args⟩
  | .msgtype44 u => ⟨.msg 0b101100#6, u.args⟩
  | .msgtype45 u => ⟨.msg 0b101101#6, u.args⟩
  | .msgtype46 u => ⟨.msg 0b101110#6, u.args⟩
  | .msgtype47 u => ⟨.msg 0b101111#6, u.args⟩
  | .msgtype48 u => ⟨.msg 0b110000#6, u.args⟩
  | .msgtype49 u => ⟨.msg 0b110001#6, u.args⟩
  | .msgtype50 u => ⟨.msg 0b110010#6, u.args⟩
  | .msgtype51 u => ⟨.msg 0b110011#6, u.args⟩
  | .msgtype52 u => ⟨.msg 0b110100#6, u.args⟩
  | .msgtype53 u => ⟨.msg 0b110101#6, u.args⟩
  | .msgtype54 u => ⟨.msg 0b110110#6, u.args⟩
  | .msgtype55 u => ⟨.msg 0b110111#6, u.args⟩
  | .msgtype56 u => ⟨.msg 0b111000#6, u.args⟩
  | .msgtype57 u => ⟨.msg 0b111001#6, u.args⟩
  | .msgtype58 u => ⟨.msg 0b111010#6, u.args⟩
  | .msgtype59 u => ⟨.msg 0b111011#6, u.args⟩
  | .msgtype60 u => ⟨.msg 0b111100#6, u.args⟩
  | .msgtype61 u => ⟨.msg 0b111101#6, u.args⟩
  | .msgtype62 u => ⟨.msg 0b111110#6, u.args⟩
  | .msgtype63 u => ⟨.msg 0b111111#6, u.args⟩
  | .armchr30 d => ⟨.armor 0x30#8, [.dir d]⟩
  | .armchr31 d => ⟨.armor 0x31#8, [.dir d]⟩
  | .armchr32 d => ⟨.armor 0x32#8, [.dir d]⟩
  | .armchr33 d => ⟨.armor 0x33#8, [.dir d]⟩
  | .armchr34 d => ⟨.armor 0x34#8, [.dir d]⟩
  | .armchr35 d => ⟨.armor 0x35#8, [.dir d]⟩
  | .armchr36 d => ⟨.armor 0x36#8, [.dir d]⟩
  | .armchr37 d => ⟨.armor 0x37#8, [.dir d]⟩
  | .armchr38 d => ⟨.armor 0x38#8, [.dir d]⟩
  | .armchr39 d => ⟨.armor 0x39#8, [.dir d]⟩
  | .armchr3A d => ⟨.armor 0x3A#8, [.dir d]⟩
  | .armchr3B d => ⟨.armor 0x3B#8, [.dir d]⟩
  | .armchr3C d => ⟨.armor 0x3C#8, [.dir d]⟩
  | .armchr3D d => ⟨.armor 0x3D#8, [.dir d]⟩
  | .armchr3E d => ⟨.armor 0x3E#8, [.dir d]⟩
  | .armchr3F d => ⟨.armor 0x3F#8, [.dir d]⟩
  | .armchr40 d => ⟨.armor 0x40#8, [.dir d]⟩
  | .armchr41 d => ⟨.armor 0x41#8, [.dir d]⟩
  | .armchr42 d => ⟨.armor 0x42#8, [.dir d]⟩
  | .armchr43 d => ⟨.armor 0x43#8, [.dir d]⟩
  | .armchr44 d => ⟨.armor 0x44#8, [.dir d]⟩
  | .armchr45 d => ⟨.armor 0x45#8, [.dir d]⟩
  | .armchr46 d => ⟨.armor 0x46#8, [.dir d]⟩
  | .armchr47 d => ⟨.armor 0x47#8, [.dir d]⟩
  | .armchr48 d => ⟨.armor 0x48#8, [.dir d]⟩
  | .armchr49 d => ⟨.armor 0x49#8, [.dir d]⟩
  | .armchr4A d => ⟨.armor 0x4A#8, [.dir d]⟩
  | .armchr4B d => ⟨.armor 0x4B#8, [.dir d]⟩
  | .armchr4C d => ⟨.armor 0x4C#8, [.dir d]⟩
  | .armchr4D d => ⟨.armor 0x4D#8, [.dir d]⟩
  | .armchr4E d => ⟨.armor 0x4E#8, [.dir d]⟩
  | .armchr4F d => ⟨.armor 0x4F#8, [.dir d]⟩
  | .armchr50 d => ⟨.armor 0x50#8, [.dir d]⟩
  | .armchr51 d => ⟨.armor 0x51#8, [.dir d]⟩
  | .armchr52 d => ⟨.armor 0x52#8, [.dir d]⟩
  | .armchr53 d => ⟨.armor 0x53#8, [.dir d]⟩
  | .armchr54 d => ⟨.armor 0x54#8, [.dir d]⟩
  | .armchr55 d => ⟨.armor 0x55#8, [.dir d]⟩
  | .armchr56 d => ⟨.armor 0x56#8, [.dir d]⟩
  | .armchr57 d => ⟨.armor 0x57#8, [.dir d]⟩
  | .armchr60 d => ⟨.armor 0x60#8, [.dir d]⟩
  | .armchr61 d => ⟨.armor 0x61#8, [.dir d]⟩
  | .armchr62 d => ⟨.armor 0x62#8, [.dir d]⟩
  | .armchr63 d => ⟨.armor 0x63#8, [.dir d]⟩
  | .armchr64 d => ⟨.armor 0x64#8, [.dir d]⟩
  | .armchr65 d => ⟨.armor 0x65#8, [.dir d]⟩
  | .armchr66 d => ⟨.armor 0x66#8, [.dir d]⟩
  | .armchr67 d => ⟨.armor 0x67#8, [.dir d]⟩
  | .armchr68 d => ⟨.armor 0x68#8, [.dir d]⟩
  | .armchr69 d => ⟨.armor 0x69#8, [.dir d]⟩
  | .armchr6A d => ⟨.armor 0x6A#8, [.dir d]⟩
  | .armchr6B d => ⟨.armor 0x6B#8, [.dir d]⟩
  | .armchr6C d => ⟨.armor 0x6C#8, [.dir d]⟩
  | .armchr6D d => ⟨.armor 0x6D#8, [.dir d]⟩
  | .armchr6E d => ⟨.armor 0x6E#8, [.dir d]⟩
  | .armchr6F d => ⟨.armor 0x6F#8, [.dir d]⟩
  | .armchr70 d => ⟨.armor 0x70#8, [.dir d]⟩
  | .armchr71 d => ⟨.armor 0x71#8, [.dir d]⟩
  | .armchr72 d => ⟨.armor 0x72#8, [.dir d]⟩
  | .armchr73 d => ⟨.armor 0x73#8, [.dir d]⟩
  | .armchr74 d => ⟨.armor 0x74#8, [.dir d]⟩
  | .armchr75 d => ⟨.armor 0x75#8, [.dir d]⟩
  | .armchr76 d => ⟨.armor 0x76#8, [.dir d]⟩
  | .armchr77 d => ⟨.armor 0x77#8, [.dir d]⟩
  | .txtchr00 d => ⟨.text 0b000000#6, [.dir d]⟩
  | .txtchr01 d => ⟨.text 0b000001#6, [.dir d]⟩
  | .txtchr02 d => ⟨.text 0b000010#6, [.dir d]⟩
  | .txtchr03 d => ⟨.text 0b000011#6, [.dir d]⟩
  | .txtchr04 d => ⟨.text 0b000100#6, [.dir d]⟩
  | .txtchr05 d => ⟨.text 0b000101#6, [.dir d]⟩
  | .txtchr06 d => ⟨.text 0b000110#6, [.dir d]⟩
  | .txtchr07 d => ⟨.text 0b000111#6, [.dir d]⟩
  | .txtchr08 d => ⟨.text 0b001000#6, [.dir d]⟩
  | .txtchr09 d => ⟨.text 0b001001#6, [.dir d]⟩
  | .txtchr10 d => ⟨.text 0b001010#6, [.dir d]⟩
  | .txtchr11 d => ⟨.text 0b001011#6, [.dir d]⟩
  | .txtchr12 d => ⟨.text 0b001100#6, [.dir d]⟩
  | .txtchr13 d => ⟨.text 0b001101#6, [.dir d]⟩
  | .txtchr14 d => ⟨.text 0b001110#6, [.dir d]⟩
  | .txtchr15 d => ⟨.text 0b001111#6, [.dir d]⟩
  | .txtchr16 d => ⟨.text 0b010000#6, [.dir d]⟩
  | .txtchr17 d => ⟨.text 0b010001#6, [.dir d]⟩
  | .txtchr18 d => ⟨.text 0b010010#6, [.dir d]⟩
  | .txtchr19 d => ⟨.text 0b010011#6, [.dir d]⟩
  | .txtchr20 d => ⟨.text 0b010100#6, [.dir d]⟩
  | .txtchr21 d => ⟨.text 0b010101#6, [.dir d]⟩
  | .txtchr22 d => ⟨.text 0b010110#6, [.dir d]⟩
  | .txtchr23 d => ⟨.text 0b010111#6, [.dir d]⟩
  | .txtchr24 d => ⟨.text 0b011000#6, [.dir d]⟩
  | .txtchr25 d => ⟨.text 0b011001#6, [.dir d]⟩
  | .txtchr26 d => ⟨.text 0b011010#6, [.dir d]⟩
  | .txtchr27 d => ⟨.text 0b011011#6, [.dir d]⟩
  | .txtchr28 d => ⟨.text 0b011100#6, [.dir d]⟩
  | .txtchr29 d => ⟨.text 0b011101#6, [.dir d]⟩
  | .txtchr30 d => ⟨.text 0b011110#6, [.dir d]⟩
  | .txtchr31 d => ⟨.text 0b011111#6, [.dir d]⟩
  | .txtchr32 d => ⟨.text 0b100000#6, [.dir d]⟩
  | .txtchr33 d => ⟨.text 0b100001#6, [.dir d]⟩
  | .txtchr34 d => ⟨.text 0b100010#6, [.dir d]⟩
  | .txtchr35 d => ⟨.text 0b100011#6, [.dir d]⟩
  | .txtchr36 d => ⟨.text 0b100100#6, [.dir d]⟩
  | .txtchr37 d => ⟨.text 0b100101#6, [.dir d]⟩
  | .txtchr38 d => ⟨.text 0b100110#6, [.dir d]⟩
  | .txtchr39 d => ⟨.text 0b100111#6, [.dir d]⟩
  | .txtchr40 d => ⟨.text 0b101000#6, [.dir d]⟩
  | .txtchr41 d => ⟨.text 0b101001#6, [.dir d]⟩
  | .txtchr42 d => ⟨.text 0b101010#6, [.dir d]⟩
  | .txtchr43 d => ⟨.text 0b101011#6, [.dir d]⟩
  | .txtchr44 d => ⟨.text 0b101100#6, [.dir d]⟩
  | .txtchr45 d => ⟨.text 0b101101#6, [.dir d]⟩
  | .txtchr46 d => ⟨.text 0b101110#6, [.dir d]⟩
  | .txtchr47 d => ⟨.text 0b101111#6, [.dir d]⟩
  | .txtchr48 d => ⟨.text 0b110000#6, [.dir d]⟩
  | .txtchr49 d => ⟨.text 0b110001#6, [.dir d]⟩
  | .txtchr50 d => ⟨.text 0b110010#6, [.dir d]⟩
  | .txtchr51 d => ⟨.text 0b110011#6, [.dir d]⟩
  | .txtchr52 d => ⟨.text 0b110100#6, [.dir d]⟩
  | .txtchr53 d => ⟨.text 0b110101#6, [.dir d]⟩
  | .txtchr54 d => ⟨.text 0b110110#6, [.dir d]⟩
  | .txtchr55 d => ⟨.text 0b110111#6, [.dir d]⟩
  | .txtchr56 d => ⟨.text 0b111000#6, [.dir d]⟩
  | .txtchr57 d => ⟨.text 0b111001#6, [.dir d]⟩
  | .txtchr58 d => ⟨.text 0b111010#6, [.dir d]⟩
  | .txtchr59 d => ⟨.text 0b111011#6, [.dir d]⟩
  | .txtchr60 d => ⟨.text 0b111100#6, [.dir d]⟩
  | .txtchr61 d => ⟨.text 0b111101#6, [.dir d]⟩
  | .txtchr62 d => ⟨.text 0b111110#6, [.dir d]⟩
  | .txtchr63 d => ⟨.text 0b111111#6, [.dir d]⟩
  | .kindNone => ⟨.kind 0b00#2, []⟩
  | .kindPos => ⟨.kind 0b01#2, []⟩
  | .kindStat => ⟨.kind 0b10#2, []⟩
  | .kindLines => ⟨.kind 0b11#2, []⟩
  | .causeOk => ⟨.cause 0b0000#4, []⟩
  | .causeBuffered => ⟨.cause 0b0001#4, []⟩
  | .causeDropGrammar => ⟨.cause 0b0010#4, []⟩
  | .causeDropChecksum => ⟨.cause 0b0011#4, []⟩
  | .causeDropShort => ⟨.cause 0b0100#4, []⟩
  | .causeDropType => ⟨.cause 0b0101#4, []⟩
  | .causeDropIncomplete => ⟨.cause 0b0110#4, []⟩
  | .causeDropLimit => ⟨.cause 0b0111#4, []⟩
  | .causeDropCapacity => ⟨.cause 0b1000#4, []⟩
  | .causeEncSignedRange => ⟨.cause 0b1001#4, []⟩
  | .causeEncUnsignedRange => ⟨.cause 0b1010#4, []⟩
  | .causeEncType => ⟨.cause 0b1011#4, []⟩
  | .causeEncChannel => ⟨.cause 0b1100#4, []⟩
  | .causeEncArmorRange => ⟨.cause 0b1101#4, []⟩
  | .causeIllegalOp => ⟨.cause 0b1110#4, []⟩
  | .causeReserved15 => ⟨.cause 0b1111#4, []⟩
  | .chkXor body => ⟨.micro .chkXor, [.str body]⟩
  | .chkHex2 h l => ⟨.micro .chkHex2, [.byte h, .byte l]⟩
  | .chkVerify body => ⟨.micro .chkVerify, [.str body]⟩
  | .parseFrame => ⟨.micro .parseFrame, []⟩
  | .parseSplit body => ⟨.micro .parseSplit, [.str body]⟩
  | .parseInt str => ⟨.micro .parseInt, [.str str]⟩
  | .parseTotal f => ⟨.micro .parseTotal, [.str f]⟩
  | .parsePart f => ⟨.micro .parsePart, [.str f]⟩
  | .parseSeq f => ⟨.micro .parseSeq, [.str f]⟩
  | .parseChan f => ⟨.micro .parseChan, [.str f]⟩
  | .parsePayload f => ⟨.micro .parsePayload, [.str f]⟩
  | .parseFill f => ⟨.micro .parseFill, [.str f]⟩
  | .parseCksum h l => ⟨.micro .parseCksum, [.byte h, .byte l]⟩
  | .parse line => ⟨.micro .parse, [.str line]⟩
  | .rsmBypass t => ⟨.micro .rsmBypass, [.time t]⟩
  | .rsmKey => ⟨.micro .rsmKey, []⟩
  | .rsmLookup k => ⟨.micro .rsmLookup, [.key k.id]⟩
  | .rsmCreate k t => ⟨.micro .rsmCreate, [.key k.id, .time t]⟩
  | .rsmStore k => ⟨.micro .rsmStore, [.key k.id]⟩
  | .rsmFill k => ⟨.micro .rsmFill, [.key k.id]⟩
  | .rsmCount k => ⟨.micro .rsmCount, [.key k.id]⟩
  | .rsmComplete k => ⟨.micro .rsmComplete, [.key k.id]⟩
  | .rsmCheck e => ⟨.micro .rsmCheck, [.entry e]⟩
  | .rsmJoin e => ⟨.micro .rsmJoin, [.entry e]⟩
  | .rsm t => ⟨.micro .rsm, [.time t]⟩
  | .rsmExpire t => ⟨.micro .rsmExpire, [.time t]⟩
  | .rsmSweep t => ⟨.micro .rsmSweep, [.time t]⟩
  | .armDec6 c => ⟨.micro .armDec6, [.byte c]⟩
  | .armUnpack => ⟨.micro .armUnpack, []⟩
  | .armStrip => ⟨.micro .armStrip, []⟩
  | .armDecode => ⟨.micro .armDecode, []⟩
  | .armPad6 => ⟨.micro .armPad6, []⟩
  | .armEnc6 v => ⟨.micro .armEnc6, [.int v]⟩
  | .armPack => ⟨.micro .armPack, []⟩
  | .armEncode => ⟨.micro .armEncode, []⟩
  | .fldGetu o w => ⟨.micro .fldGetu, [.num o, .num w]⟩
  | .fldGets o w => ⟨.micro .fldGets, [.num o, .num w]⟩
  | .fldGett o n => ⟨.micro .fldGett, [.num o, .num n]⟩
  | .fldPutu v w => ⟨.micro .fldPutu, [.reg v, .num w]⟩
  | .fldPuts v w => ⟨.micro .fldPuts, [.reg v, .num w]⟩
  | .fldPutt text n => ⟨.micro .fldPutt, [.str text, .num n]⟩
  | .fldType => ⟨.micro .fldType, []⟩
  | .posDecode => ⟨.micro .posDecode, []⟩
  | .posEncode op => ⟨.micro .posEncode, [.pos op]⟩
  | .statDecode => ⟨.micro .statDecode, []⟩
  | .statEncode op => ⟨.micro .statEncode, [.stat op]⟩
  | .emtPad => ⟨.micro .emtPad, []⟩
  | .emtChunk p => ⟨.micro .emtChunk, [.str p]⟩
  | .emtFill n => ⟨.micro .emtFill, [.num n]⟩
  | .emtSeq n d => ⟨.micro .emtSeq, [.num n, .draw d.digit]⟩
  | .emtChan c => ⟨.micro .emtChan, [.str c]⟩
  | .emtLine n i seqId ch chunk f => ⟨.micro .emtLine, [.num n, .num i, .str seqId, .byte ch, .str chunk, .num f]⟩
  | .emtCksum body => ⟨.micro .emtCksum, [.str body]⟩
  | .emt c d => ⟨.micro .emt, [.str c, .draw d.digit]⟩
  | .decodePayload => ⟨.micro .decodePayload, []⟩

/-- A Position operand of zeros: every register 0, every presence bit 0, the channel empty. -/
def PosOperand.zero : PosOperand where
  msgType := 0
  repeatInd := 0
  mmsi := 0
  navStatus := 0
  rot := ⟨false, 0⟩
  sog := ⟨false, 0⟩
  posAcc := 0
  lon := ⟨false, 0⟩
  lat := ⟨false, 0⟩
  cog := ⟨false, 0⟩
  heading := ⟨false, 0⟩
  utcSec := ⟨false, 0⟩
  maneuver := 0
  raim := 0
  radio := 0
  channel := []

/-- A Static operand of zeros. -/
def StatOperand.zero : StatOperand where
  repeatInd := 0
  mmsi := 0
  aisVersion := 0
  imo := 0
  callsign := []
  name := []
  shipType := 0
  toBow := 0
  toStern := 0
  toPort := 0
  toStarboard := 0
  epfd := 0
  etaMonth := ⟨false, 0⟩
  etaDay := ⟨false, 0⟩
  etaHour := ⟨false, 0⟩
  etaMinute := ⟨false, 0⟩
  draught := 0
  destination := []
  dteAvailable := 0
  channel := []

/-- The zero operands that go with an operation code when only the code's bits are given; the draw, which has no value 0, is SEQ_LO
(log 3, log 19). -/
def zeroCmdArgs : Nat → List Arg
  | 1 => [.str [], .time 0]
  | 2 => [.pos PosOperand.zero, .draw Config.seqLo]
  | 3 => [.stat StatOperand.zero, .draw Config.seqLo]
  | 4 => [.time 0]
  | _ => []

/-- The command of an 8-bit table word. Words of several formats coincide: an operation code is tried first, then a payload
byte, then a message type (log 3). -/
def byteCommand (w : Nat) : Command :=
  if w < 8 then ⟨.cmd (BitVec.ofNat 3 w), zeroCmdArgs w⟩
  else if w < 256 ∧ (armorRow (BitVec.ofNat 8 w)).isSome then ⟨.armor (BitVec.ofNat 8 w), [.dir .rx]⟩
  else if w < 64 then ⟨.msg (BitVec.ofNat 6 w), [.bits []]⟩
  else ⟨.unassigned w, []⟩

/-- The command of an instruction whose code bits are `w`, as the opcode table numbers them, with operands of zeros: the number
of bits tells the format where the formats' widths differ (log 3). -/
def tableCommand (nbits w : Nat) : Command :=
  match nbits with
  | 2 => if w < 4 then ⟨.kind (BitVec.ofNat 2 w), []⟩ else ⟨.unassigned w, []⟩
  | 3 => if w < 8 then ⟨.cmd (BitVec.ofNat 3 w), zeroCmdArgs w⟩ else ⟨.unassigned w, []⟩
  | 4 => if w < 16 then ⟨.cause (BitVec.ofNat 4 w), []⟩ else ⟨.unassigned w, []⟩
  | 6 => if w < 64 then ⟨.msg (BitVec.ofNat 6 w), [.bits []]⟩ else ⟨.unassigned w, []⟩
  | 8 => byteCommand w
  | 48 => if w < 2 ^ 48 then ⟨.sentence (BitVec.ofNat 48 w), [.str []]⟩ else ⟨.unassigned w, []⟩
  | _ => ⟨.unassigned w, []⟩

/-- The instruction the decoder of the default machine reads from a table word. -/
def decodeTableWord (nbits w : Nat) : Option Instr :=
  match decode Config.Params.default (tableCommand nbits w) with
  | .ok i => some i
  | .error _ => none

end Sys2Proof
end

