-- ==== Sys2Proof/Machine/State.lean ====
section
/-! DEFINITION. State: everything the spec gives the machine (10_state.md), as plain data, the reasons a step can stop, and the
machine right after reset (70_reset_and_hazards.md R350, R351). -/

namespace Sys2Proof.Machine

/-- The machine. `rt` is the reassembly table RT (R21), the only state that survives an operation (R20); `resp` is RESP (R39)
with the delivered value (R300); `tr` holds the transient registers (R28 to R35); `cfg` the open parameters (R9, R41). `port`
holds the commands presented and not yet taken (the model's own; log 1); `free` counts the free values drawn (the model's own;
log 7). -/
structure State where
  rt : List Entry
  resp : Response
  tr : Transients
  cfg : Config.Params
  port : List Command
  free : Nat
  deriving DecidableEq, Repr

/-- Why a micro-operation stops: its operand does not exist. No host operation, no sentence, message, character or response row
raises one (log 14). -/
inductive Fault
  /-- RSM.STORE, RSM.FILL, RSM.COUNT and RSM.COMPLETE, whose operand is an entry of RT (R136 to R139), are given a key with no
  entry. Safe: the spec gives no effect. -/
  | noEntry
  /-- RSM.CREATE, whose operand is a key with no entry (R134), is given a key that has one. Safe: the spec gives no effect, and
  R21 forbids two entries with one key. -/
  | keyPresent
  deriving DecidableEq, Repr

/-- Why a step has no meaning. -/
inductive Refusal
  /-- An instruction with no meaning yet: raised by `exec` only. Safe. -/
  | notModelled (mnemonic : String)
  /-- The command at the head of the port is none the decoder reads: raised by `step` only. Safe: the interface cannot present
  such a command. Its code is no row of the table, its operands are not those of the row, its draw is outside 1..9 (U9), its text
  or channel string is too long or its number too wide for the interface (U18), or its time sample is too wide (R36). -/
  | undecodable (e : DecodeError)
  /-- The row of the reserved cause 15, which is never produced (R86, R322, U15; log 18). Safe. -/
  | reservedCause
  deriving DecidableEq, Repr

/-- The transient registers at reset. The spec leaves every one unspecified (R44); these are the model's values, inside each
register's range (log 6). -/
def Transients.atReset : Transients where
  line := []
  tag := 0
  total := 1
  part := 1
  seq := []
  chan := 0x41#8
  payload := []
  fill := 0
  cksum := 0
  bits := []
  out := []
  pos :=
    { msgType := 1, repeatInd := 0, mmsi := 0, navStatus := 0, rot := 0, sog := 0, posAcc := 0, lon := 0, lat := 0,
      cog := 0, heading := 0, utcSec := 0, maneuver := 0, raim := 0, radio := 0, channel := 0x41#8 }
  stat :=
    { msgType := 5, repeatInd := 0, mmsi := 0, aisVersion := 0, imo := 0, callsign := [], name := [], shipType := 0,
      toBow := 0, toStern := 0, toPort := 0, toStarboard := 0, epfd := 0, etaMonth := 0, etaDay := 0, etaHour := 0,
      etaMinute := 0, draught := 0, destination := [], dteAvailable := 0, channel := 0x41#8 }
  posOp := PosOperand.zero
  statOp := StatOperand.zero
  ret := .nothing
  acc := []

/-- The machine right after reset: RT empty (R43, R350), the parameters at their defaults (R9), nothing presented. RESP is
unspecified (R44) and takes the model's value (log 8). -/
def State.reset : State where
  rt := []
  resp := ⟨.none, .ok, .nothing⟩
  tr := Transients.atReset
  cfg := Config.Params.default
  port := []
  free := 0

end Sys2Proof.Machine
end

