-- ==== Sys2Proof/Machine/Flags.lean ====
section
/-! DEFINITION. Flags: the CORE has no condition codes and no sticky bits (spec 10_state.md R39); its only status is the response
with its codes (30_encoding.md R86, 60_exceptions.md R322) and the entry count OCC (10_state.md R38). -/

namespace Sys2Proof.Machine

/-- The 2-bit code of a kind, R86. -/
def Kind.code : Kind → BitVec 2
  | .none => 0
  | .pos => 1
  | .stat => 2
  | .lines => 3

/-- The 4-bit code of a cause, R86. -/
def Cause.code : Cause → BitVec 4
  | .ok => 0
  | .buffered => 1
  | .dropGrammar => 2
  | .dropChecksum => 3
  | .dropShort => 4
  | .dropType => 5
  | .dropIncomplete => 6
  | .dropLimit => 7
  | .dropCapacity => 8
  | .encSignedRange => 9
  | .encUnsignedRange => 10
  | .encType => 11
  | .encChannel => 12
  | .encArmorRange => 13
  | .illegalOp => 14

/-- Causes 2 to 8 are drops (R86). -/
def Cause.isDrop (c : Cause) : Bool := decide (2 ≤ c.code.toNat ∧ c.code.toNat ≤ 8)

/-- Causes 9 to 13 are faults of an encode (R86). -/
def Cause.isEncodeFault (c : Cause) : Bool := decide (9 ≤ c.code.toNat ∧ c.code.toNat ≤ 13)

/-- `OCC`, R38: the number of entries. Reading it has no side effect. -/
def State.occ (s : State) : Nat := s.rt.length

end Sys2Proof.Machine
end

