-- ==== Sys2Proof/Machine/Operands.lean ====
section
/-! DEFINITION. Operands: bit strings as numbers and back (spec 20_memory.md R54, R55, 00_scope.md R11), reads of the bit buffer
(R57), decimal and hexadecimal spellings (00_scope.md section 6), the two alphabets (30_encoding.md R79, R80) and the
substitution of sentinels (43_field_primitives.md R199). -/

namespace Sys2Proof.Machine

/-- `uint`, R54: the first bit is the most significant. -/
def uint : Bits → Nat
  | [] => 0
  | b :: bs => b.toNat * 2 ^ bs.length + uint bs

/-- `bits_w(v)`, R11: the low `w` bits of `v`, most significant first. -/
def bitsW : Nat → Nat → Bits
  | 0, _ => []
  | w + 1, v => v.testBit w :: bitsW w v

/-- `sint_w`, R55: a leading 0 reads as unsigned; otherwise invert every bit, read as unsigned, add 1 and negate. -/
def sint (b : Bits) : Int :=
  if b.head? = some true then -(Int.ofNat (uint (b.map (fun x => !x))) + 1) else Int.ofNat (uint b)

/-- The read `B[o +: w]`, R11. It is defined only inside the bit string (R57); outside, the value read is free (log 13). -/
def readBits (b : Bits) (o w : Nat) : Bits :=
  if o + w ≤ b.length then (b.drop o).take w else bitsW w (Config.undefinedRead b o w)

/-- `dec(n)`'s digits, least significant first, with enough fuel to reach the last. -/
def decDigits : Nat → Nat → Bytes
  | 0, _ => []
  | fuel + 1, n =>
    if n < 10 then [BitVec.ofNat 8 (0x30 + n)]
    else BitVec.ofNat 8 (0x30 + n % 10) :: decDigits fuel (n / 10)

/-- `dec(n)`, 00_scope section 6: decimal, no sign, no leading zero, `dec(0) = "0"`. -/
def dec (n : Nat) : Bytes := (decDigits (n + 1) n).reverse

/-- An upper-case hexadecimal digit. -/
def hexDigit (v : Nat) : Byte := if v < 10 then BitVec.ofNat 8 (0x30 + v) else BitVec.ofNat 8 (0x41 + (v - 10))

/-- `HEX2(v)`, 00_scope section 6: two upper-case hexadecimal characters, high nibble first. -/
def hex2Upper (v : Byte) : Bytes := [hexDigit (v.toNat / 16), hexDigit (v.toNat % 16)]

/-- `hexval`, R101: the value of a hexadecimal digit of either case. -/
def hexVal (c : Byte) : Option Nat :=
  if 0x30 ≤ c.toNat ∧ c.toNat ≤ 0x39 then some (c.toNat - 0x30)
  else if 0x41 ≤ c.toNat ∧ c.toNat ≤ 0x46 then some (c.toNat - 0x41 + 10)
  else if 0x61 ≤ c.toNat ∧ c.toNat ≤ 0x66 then some (c.toNat - 0x61 + 10)
  else none

/-- The payload alphabet, R76: the bytes 0x30 to 0x57 and 0x60 to 0x77. -/
def isArmor (c : Byte) : Bool :=
  decide (0x30 ≤ c.toNat ∧ c.toNat ≤ 0x57) || decide (0x60 ≤ c.toNat ∧ c.toNat ≤ 0x77)

/-- The text alphabet, R80: the character of a group value. -/
def textChar (v : Nat) : Byte := if v < 32 then BitVec.ofNat 8 (v + 64) else BitVec.ofNat 8 v

/-- The group value a character packs to, R196: an unknown character packs to 0. -/
def textValue (c : Byte) : Nat :=
  if 0x40 ≤ c.toNat ∧ c.toNat ≤ 0x5F then c.toNat - 64
  else if 0x20 ≤ c.toNat ∧ c.toNat ≤ 0x3F then c.toNat
  else 0

/-- Substitution of a sentinel for an absent register, R199: an absent register's value is not looked at. -/
def orSentinel (r : OptReg) (sentinel : Int) : Int := if r.present then r.value else sentinel

end Sys2Proof.Machine
end

