-- ==== Sys2Proof/Machine/Ops.lean ====
section
/-! DEFINITION. Ops: the reassembly table as a keyed store in one canonical form (spec 10_state.md R21 to R27), the writes of
State, and the one shared way in which an operation ends without its result: a drop or a fault (60_exceptions.md R321, R339,
R340). -/

namespace Sys2Proof.Machine

/-! ### Keys and parts in canonical order (log 10) -/

/-- Strings in lexicographic order, byte by byte. -/
def bytesLt : Bytes → Bytes → Bool
  | _, [] => false
  | [], _ :: _ => true
  | a :: as, b :: bs => decide (a.toNat < b.toNat) || (decide (a = b) && bytesLt as bs)

/-- Keys in order: the sentinel key first, then by id. -/
def keyLt (a b : Key) : Bool := (!a.hasId && b.hasId) || (a.hasId == b.hasId && bytesLt a.id b.id)

/-- `e.parts[i]`, R24. -/
def partAt (parts : List (Nat × Bytes)) (i : Nat) : Option Bytes :=
  match parts with
  | [] => none
  | p :: rest => if p.1 = i then some p.2 else partAt rest i

/-- `e.parts[i] <- frag`: the last write wins (R24, R136). -/
def putPart (parts : List (Nat × Bytes)) (i : Nat) (frag : Bytes) : List (Nat × Bytes) :=
  match parts with
  | [] => [(i, frag)]
  | p :: rest =>
    if p.1 = i then (i, frag) :: rest
    else if i < p.1 then (i, frag) :: p :: rest
    else p :: putPart rest i frag

/-- `count(e)`, R27, R138: the number of distinct indices received. -/
def partCount (e : Entry) : Nat := e.parts.length

/-! ### The table -/

/-- The entry of key `k`, R133. -/
def tableGet (rt : List Entry) (k : Key) : Option Entry :=
  match rt with
  | [] => none
  | e :: rest => if e.key = k then some e else tableGet rest k

/-- Writes an entry under its key: replaces the entry of that key or inserts it in its place. -/
def tablePut (rt : List Entry) (e : Entry) : List Entry :=
  match rt with
  | [] => [e]
  | x :: rest =>
    if x.key = e.key then e :: rest
    else if keyLt e.key x.key then e :: x :: rest
    else x :: tablePut rest e

/-- `RT <- RT - { e }` for the entry of key `k` (R139). -/
def tableRemove (rt : List Entry) (k : Key) : List Entry := rt.filter (fun e => decide (e.key ≠ k))

/-- The keys of the table are strictly rising. -/
def keysRising : List Entry → Bool
  | [] => true
  | [_] => true
  | a :: b :: rest => keyLt a.key b.key && keysRising (b :: rest)

/-- The canonical form of the table: keys strictly rising, and in every entry part indices strictly rising (log 10). -/
def tableWf (rt : List Entry) : Bool := keysRising rt && rt.all (fun e => partsRising e.parts)

/-- `age(e, t)`, R145: a saturating difference. -/
def age (e : Entry) (t : Time) : Nat := if e.created ≤ t then t - e.created else 0

/-- `RSM.EXPIRE(t)` on the table, R143: keeps the entries of age at most EXPIRY_MS. -/
def expireTable (rt : List Entry) (t : Time) : List Entry := rt.filter (fun e => decide (age e t ≤ Config.expiryMs))

/-- `RSM.SWEEP(t)` on the table, R144: keeps the entries of age below EXPIRY_MS. -/
def sweepTable (rt : List Entry) (t : Time) : List Entry := rt.filter (fun e => decide (age e t < Config.expiryMs))

/-- The number of entries that `RSM.SWEEP(t)` evicts, R144. -/
def sweepCount (rt : List Entry) (t : Time) : Nat := (rt.filter (fun e => decide (Config.expiryMs ≤ age e t))).length

/-! ### Writes of State -/

def State.withRt (s : State) (rt : List Entry) : State := { s with rt := rt }

def State.withResp (s : State) (r : Response) : State := { s with resp := r }

def State.withTr (s : State) (tr : Transients) : State := { s with tr := tr }

def State.withPort (s : State) (p : List Command) : State := { s with port := p }

/-- A micro-operation returns a value: it goes to RET (log 5). -/
def State.returns (s : State) (r : Ret) : State := s.withTr { s.tr with ret := r }

/-- BITS is written whole: the greatest length that R29 gives it is not tested here; the operations of the CORE stay within it, and
what is presented alone may not (DESIGN CHOICE, log 30). -/
def State.withBits (s : State) (b : Bits) : State := s.withTr { s.tr with bits := b }

/-- The transient registers hold no defined value once an operation has ended (R20, U1): they take the next free value (log 7). -/
def State.finish (s : State) : State :=
  { s with tr := Config.freeTransients s.free, free := s.free + 1 }

/-- The response of a drop, a fault or a refusal: no record, the cause alone (R322, R339, R340). -/
def Response.ofCause (c : Cause) : Response := ⟨.none, c, .nothing⟩

/-- TAKING A DROP OR A FAULT, `drop(cause)` and `raise F(info)` of the pseudocode (00_scope section 6, R321, R339, R340): the
response is NONE with the cause, nothing is saved, no control is transferred, the table is as it stands, and, since the operation
ends, its transient registers hold no defined value (R20). There is no return from it (R341). -/
def State.abort (s : State) (c : Cause) : State := (s.withResp (Response.ofCause c)).finish

/-- Writes registers from what a step computed, or takes the drop or fault it met. -/
def State.writeOrAbort {α : Type} (s : State) (r : Except Cause α) (write : Transients → α → Transients) : State :=
  match r with
  | .ok a => s.withTr (write s.tr a)
  | .error c => s.abort c

end Sys2Proof.Machine
end

