-- ==== Sys2Proof/Machine/ArmorChars.lean ====
section
/-! DEFINITION. ArmorChars: the 64 rows of the payload alphabet (spec 30_encoding.md R79), each with the byte and the value that
the table of R79 gives it (log 15). -/

namespace Sys2Proof.Machine

/-- A row of the payload alphabet: receiving, one turn of `ARM.UNPACK`, the character `c` appends its 6-bit group to BITS (R170,
R172); transmitting, one turn of `ARM.PACK`, the group of value `v` appends its character to the string under construction (R176,
R177). -/
def armorChar (c : Byte) (v : Nat) (d : Dir) (s : State) : State :=
  match d with
  | .rx => s.withBits (s.tr.bits ++ bitsW 6 v)
  | .tx => s.withTr { s.tr with acc := s.tr.acc ++ [c] }

def execArmchr30 (d : Dir) (s : State) : Host.Outcome State Fault Refusal := .next (armorChar 0x30#8 0 d s)
def execArmchr31 (d : Dir) (s : State) : Host.Outcome State Fault Refusal := .next (armorChar 0x31#8 1 d s)
def execArmchr32 (d : Dir) (s : State) : Host.Outcome State Fault Refusal := .next (armorChar 0x32#8 2 d s)
def execArmchr33 (d : Dir) (s : State) : Host.Outcome State Fault Refusal := .next (armorChar 0x33#8 3 d s)
def execArmchr34 (d : Dir) (s : State) : Host.Outcome State Fault Refusal := .next (armorChar 0x34#8 4 d s)
def execArmchr35 (d : Dir) (s : State) : Host.Outcome State Fault Refusal := .next (armorChar 0x35#8 5 d s)
def execArmchr36 (d : Dir) (s : State) : Host.Outcome State Fault Refusal := .next (armorChar 0x36#8 6 d s)
def execArmchr37 (d : Dir) (s : State) : Host.Outcome State Fault Refusal := .next (armorChar 0x37#8 7 d s)
def execArmchr38 (d : Dir) (s : State) : Host.Outcome State Fault Refusal := .next (armorChar 0x38#8 8 d s)
def execArmchr39 (d : Dir) (s : State) : Host.Outcome State Fault Refusal := .next (armorChar 0x39#8 9 d s)
def execArmchr3A (d : Dir) (s : State) : Host.Outcome State Fault Refusal := .next (armorChar 0x3A#8 10 d s)
def execArmchr3B (d : Dir) (s : State) : Host.Outcome State Fault Refusal := .next (armorChar 0x3B#8 11 d s)
def execArmchr3C (d : Dir) (s : State) : Host.Outcome State Fault Refusal := .next (armorChar 0x3C#8 12 d s)
def execArmchr3D (d : Dir) (s : State) : Host.Outcome State Fault Refusal := .next (armorChar 0x3D#8 13 d s)
def execArmchr3E (d : Dir) (s : State) : Host.Outcome State Fault Refusal := .next (armorChar 0x3E#8 14 d s)
def execArmchr3F (d : Dir) (s : State) : Host.Outcome State Fault Refusal := .next (armorChar 0x3F#8 15 d s)
def execArmchr40 (d : Dir) (s : State) : Host.Outcome State Fault Refusal := .next (armorChar 0x40#8 16 d s)
def execArmchr41 (d : Dir) (s : State) : Host.Outcome State Fault Refusal := .next (armorChar 0x41#8 17 d s)
def execArmchr42 (d : Dir) (s : State) : Host.Outcome State Fault Refusal := .next (armorChar 0x42#8 18 d s)
def execArmchr43 (d : Dir) (s : State) : Host.Outcome State Fault Refusal := .next (armorChar 0x43#8 19 d s)
def execArmchr44 (d : Dir) (s : State) : Host.Outcome State Fault Refusal := .next (armorChar 0x44#8 20 d s)
def execArmchr45 (d : Dir) (s : State) : Host.Outcome State Fault Refusal := .next (armorChar 0x45#8 21 d s)
def execArmchr46 (d : Dir) (s : State) : Host.Outcome State Fault Refusal := .next (armorChar 0x46#8 22 d s)
def execArmchr47 (d : Dir) (s : State) : Host.Outcome State Fault Refusal := .next (armorChar 0x47#8 23 d s)
def execArmchr48 (d : Dir) (s : State) : Host.Outcome State Fault Refusal := .next (armorChar 0x48#8 24 d s)
def execArmchr49 (d : Dir) (s : State) : Host.Outcome State Fault Refusal := .next (armorChar 0x49#8 25 d s)
def execArmchr4A (d : Dir) (s : State) : Host.Outcome State Fault Refusal := .next (armorChar 0x4A#8 26 d s)
def execArmchr4B (d : Dir) (s : State) : Host.Outcome State Fault Refusal := .next (armorChar 0x4B#8 27 d s)
def execArmchr4C (d : Dir) (s : State) : Host.Outcome State Fault Refusal := .next (armorChar 0x4C#8 28 d s)
def execArmchr4D (d : Dir) (s : State) : Host.Outcome State Fault Refusal := .next (armorChar 0x4D#8 29 d s)
def execArmchr4E (d : Dir) (s : State) : Host.Outcome State Fault Refusal := .next (armorChar 0x4E#8 30 d s)
def execArmchr4F (d : Dir) (s : State) : Host.Outcome State Fault Refusal := .next (armorChar 0x4F#8 31 d s)
def execArmchr50 (d : Dir) (s : State) : Host.Outcome State Fault Refusal := .next (armorChar 0x50#8 32 d s)
def execArmchr51 (d : Dir) (s : State) : Host.Outcome State Fault Refusal := .next (armorChar 0x51#8 33 d s)
def execArmchr52 (d : Dir) (s : State) : Host.Outcome State Fault Refusal := .next (armorChar 0x52#8 34 d s)
def execArmchr53 (d : Dir) (s : State) : Host.Outcome State Fault Refusal := .next (armorChar 0x53#8 35 d s)
def execArmchr54 (d : Dir) (s : State) : Host.Outcome State Fault Refusal := .next (armorChar 0x54#8 36 d s)
def execArmchr55 (d : Dir) (s : State) : Host.Outcome State Fault Refusal := .next (armorChar 0x55#8 37 d s)
def execArmchr56 (d : Dir) (s : State) : Host.Outcome State Fault Refusal := .next (armorChar 0x56#8 38 d s)
def execArmchr57 (d : Dir) (s : State) : Host.Outcome State Fault Refusal := .next (armorChar 0x57#8 39 d s)
def execArmchr60 (d : Dir) (s : State) : Host.Outcome State Fault Refusal := .next (armorChar 0x60#8 40 d s)
def execArmchr61 (d : Dir) (s : State) : Host.Outcome State Fault Refusal := .next (armorChar 0x61#8 41 d s)
def execArmchr62 (d : Dir) (s : State) : Host.Outcome State Fault Refusal := .next (armorChar 0x62#8 42 d s)
def execArmchr63 (d : Dir) (s : State) : Host.Outcome State Fault Refusal := .next (armorChar 0x63#8 43 d s)
def execArmchr64 (d : Dir) (s : State) : Host.Outcome State Fault Refusal := .next (armorChar 0x64#8 44 d s)
def execArmchr65 (d : Dir) (s : State) : Host.Outcome State Fault Refusal := .next (armorChar 0x65#8 45 d s)
def execArmchr66 (d : Dir) (s : State) : Host.Outcome State Fault Refusal := .next (armorChar 0x66#8 46 d s)
def execArmchr67 (d : Dir) (s : State) : Host.Outcome State Fault Refusal := .next (armorChar 0x67#8 47 d s)
def execArmchr68 (d : Dir) (s : State) : Host.Outcome State Fault Refusal := .next (armorChar 0x68#8 48 d s)
def execArmchr69 (d : Dir) (s : State) : Host.Outcome State Fault Refusal := .next (armorChar 0x69#8 49 d s)
def execArmchr6A (d : Dir) (s : State) : Host.Outcome State Fault Refusal := .next (armorChar 0x6A#8 50 d s)
def execArmchr6B (d : Dir) (s : State) : Host.Outcome State Fault Refusal := .next (armorChar 0x6B#8 51 d s)
def execArmchr6C (d : Dir) (s : State) : Host.Outcome State Fault Refusal := .next (armorChar 0x6C#8 52 d s)
def execArmchr6D (d : Dir) (s : State) : Host.Outcome State Fault Refusal := .next (armorChar 0x6D#8 53 d s)
def execArmchr6E (d : Dir) (s : State) : Host.Outcome State Fault Refusal := .next (armorChar 0x6E#8 54 d s)
def execArmchr6F (d : Dir) (s : State) : Host.Outcome State Fault Refusal := .next (armorChar 0x6F#8 55 d s)
def execArmchr70 (d : Dir) (s : State) : Host.Outcome State Fault Refusal := .next (armorChar 0x70#8 56 d s)
def execArmchr71 (d : Dir) (s : State) : Host.Outcome State Fault Refusal := .next (armorChar 0x71#8 57 d s)
def execArmchr72 (d : Dir) (s : State) : Host.Outcome State Fault Refusal := .next (armorChar 0x72#8 58 d s)
def execArmchr73 (d : Dir) (s : State) : Host.Outcome State Fault Refusal := .next (armorChar 0x73#8 59 d s)
def execArmchr74 (d : Dir) (s : State) : Host.Outcome State Fault Refusal := .next (armorChar 0x74#8 60 d s)
def execArmchr75 (d : Dir) (s : State) : Host.Outcome State Fault Refusal := .next (armorChar 0x75#8 61 d s)
def execArmchr76 (d : Dir) (s : State) : Host.Outcome State Fault Refusal := .next (armorChar 0x76#8 62 d s)
def execArmchr77 (d : Dir) (s : State) : Host.Outcome State Fault Refusal := .next (armorChar 0x77#8 63 d s)

end Sys2Proof.Machine
end

