-- ==== Sys2Proof/Machine/Field.lean ====
section
/-! DEFINITION. Field: the Field Codec primitives (spec 43_field_primitives.md R190 to R196) and the choice of a layout by the
message type (R197). -/

namespace Sys2Proof.Machine

/-! ### Reads -/

/-- `FLD.GETU(o, w)`, R190. -/
def getU (b : Bits) (o w : Nat) : Nat := uint (readBits b o w)

/-- `FLD.GETS(o, w)`, R191. -/
def getS (b : Bits) (o w : Nat) : Int := sint (readBits b o w)

/-- The characters of a text field before trimming, R192: the loop of `FLD.GETT`. -/
def rawText (b : Bits) (o : Nat) : Nat → Bytes
  | 0 => []
  | n + 1 => textChar (getU b o 6) :: rawText b (o + 6) n

/-- Drops a character from the end as long as it stands there. -/
def stripEnd (c : Byte) (str : Bytes) : Bytes := (str.reverse.dropWhile (· == c)).reverse

/-- The trimming of R192 and R193: trailing `'@'`, then trailing spaces, then leading spaces, each once. -/
def trimText (str : Bytes) : Bytes := (stripEnd 0x20#8 (stripEnd 0x40#8 str)).dropWhile (· == 0x20#8)

/-- `FLD.GETT(o, n)`, R192. -/
def getT (b : Bits) (o n : Nat) : Bytes := trimText (rawText b o n)

/-! ### Writes: the bits a write appends to BITS -/

/-- `FLD.PUTU(v, w)`, R194. -/
def putU (v : Int) (w : Nat) : Except Cause Bits :=
  if v < 0 ∨ 2 ^ w ≤ v then .error .encUnsignedRange else .ok (bitsW w v.toNat)

/-- `FLD.PUTS(v, w)`, R195. -/
def putS (v : Int) (w : Nat) : Except Cause Bits :=
  if v < -(2 ^ (w - 1)) ∨ 2 ^ (w - 1) - 1 < v then .error .encSignedRange else .ok (bitsW w (v % 2 ^ w).toNat)

/-- `FLD.PUTT(text, n)`, R196: `n` characters, padded with `'@'` or truncated. -/
def putT : Bytes → Nat → Bits
  | _, 0 => []
  | [], n + 1 => bitsW 6 0 ++ putT [] n
  | c :: cs, n + 1 => bitsW 6 (textValue c) ++ putT cs n

/-- The writes of an encoder in order: the bits one after the other, or the first fault met (R228, R263). -/
def appendAll : List (Except Cause Bits) → Except Cause Bits
  | [] => .ok []
  | .error c :: _ => .error c
  | .ok b :: rest =>
    match appendAll rest with
    | .ok bs => .ok (b ++ bs)
    | .error c => .error c

/-! ### Widths that the spec states no result for (log 30) -/

/-- `FLD.GETU(o, w)`, R190, with a free value for the width 0. -/
def fldGetu (b : Bits) (o w : Nat) : Nat := if w = 0 then Config.zeroWidthUnsigned b o else getU b o w

/-- `FLD.GETS(o, w)`, R191, with a free value for the width 0. -/
def fldGets (b : Bits) (o w : Nat) : Int := if w = 0 then Config.zeroWidthSigned b o else getS b o w

/-- `FLD.PUTS(v, w)`, R195. At the width 0 the outcome of the range test is free; a number that passes it appends `w` bits, none. -/
def fldPuts (v : Int) (w : Nat) : Except Cause Bits :=
  if w = 0 then (if Config.zeroWidthFits v then .ok [] else .error .encSignedRange) else putS v w

/-! ### Dispatch -/

/-- The two layouts, R81. -/
inductive Layout
  | position | static
  deriving DecidableEq, Repr

/-- The choice of `FLD.TYPE(BITS)` once the type is read, R197, R82. -/
def layoutOf (ty len : Nat) : Except Cause Layout :=
  if ty = 5 then (if len < Config.statMinBits then .error .dropShort else .ok .static)
  else if ty = 1 ∨ ty = 2 ∨ ty = 3 then (if len < Config.posMinBits then .error .dropShort else .ok .position)
  else .error .dropType

/-- `FLD.TYPE(BITS)`, R197, up to the choice of the layout. -/
def fldTypeOf (b : Bits) : Except Cause Layout :=
  if b.length < Config.typeW then .error .dropShort else layoutOf (getU b 0 Config.typeW) b.length

/-! ### Meanings of the reads and writes -/

/-- R190: BITS is the register; the number is returned. -/
def execFldGetu (o w : Nat) (s : State) : Host.Outcome State Fault Refusal := .next (s.returns (.nat (fldGetu s.tr.bits o w)))

/-- R191. -/
def execFldGets (o w : Nat) (s : State) : Host.Outcome State Fault Refusal := .next (s.returns (.int (fldGets s.tr.bits o w)))

/-- R192: the text is returned and is what the string under construction ends as (log 5). -/
def execFldGett (o n : Nat) (s : State) : Host.Outcome State Fault Refusal :=
  .next (s.withTr { s.tr with ret := .str (getT s.tr.bits o n), acc := getT s.tr.bits o n })

/-- R194: the bits are appended to BITS. The width 0 is no case of its own: 0 appends the empty string (R11), any other number
faults. -/
def execFldPutu (v : RecInt) (w : Nat) (s : State) : Host.Outcome State Fault Refusal :=
  .next (s.writeOrAbort (putU v w) (fun tr b => { tr with bits := tr.bits ++ b }))

/-- R195. -/
def execFldPuts (v : RecInt) (w : Nat) (s : State) : Host.Outcome State Fault Refusal :=
  .next (s.writeOrAbort (fldPuts v w) (fun tr b => { tr with bits := tr.bits ++ b }))

/-- R196. -/
def execFldPutt (text : Bytes) (n : Nat) (s : State) : Host.Outcome State Fault Refusal :=
  .next (s.withBits (s.tr.bits ++ putT text n))

end Sys2Proof.Machine
end

