-- ==== Sys2Proof/Machine/Position.lean ====
section
/-! DEFINITION. Position: the Position Report of message types 1, 2 and 3 (spec 44_position_report.md R210 to R232, layout
30_encoding.md R83). -/

namespace Sys2Proof.Machine

/-- `POS.DECODE`, R227, with the offsets and widths of R83 (log 20): bits 145 to 147 and bits from 168 on are not read. -/
def posDecode (b : Bits) (chan : Byte) : PosRecord where
  msgType := BitVec.ofNat 6 (getU b 0 6)
  repeatInd := BitVec.ofNat 2 (getU b 6 2)
  mmsi := BitVec.ofNat 30 (getU b 8 30)
  navStatus := BitVec.ofNat 4 (getU b 38 4)
  rot := BitVec.ofInt 8 (getS b 42 8)
  sog := BitVec.ofNat 10 (getU b 50 10)
  posAcc := BitVec.ofNat 1 (getU b 60 1)
  lon := BitVec.ofInt 28 (getS b 61 28)
  lat := BitVec.ofInt 27 (getS b 89 27)
  cog := BitVec.ofNat 12 (getU b 116 12)
  heading := BitVec.ofNat 9 (getU b 128 9)
  utcSec := BitVec.ofNat 6 (getU b 137 6)
  maneuver := BitVec.ofNat 2 (getU b 143 2)
  raim := BitVec.ofNat 1 (getU b 148 1)
  radio := BitVec.ofNat 19 (getU b 149 19)
  channel := chan

/-- The sentinels of the Position layout, R83, R199. -/
def rotSentinel : Int := -128
def sogSentinel : Int := 1023
def lonSentinel : Int := 108600000
def latSentinel : Int := 54600000
def cogSentinel : Int := 3600
def headingSentinel : Int := 511
def utcSecSentinel : Int := 60

/-- The writes of `POS.ENCODE` in layout order, R228. -/
def posWrites (op : PosOperand) : List (Except Cause Bits) :=
  [putU op.msgType 6,
   putU op.repeatInd 2,
   putU op.mmsi 30,
   putU op.navStatus 4,
   putS (orSentinel op.rot rotSentinel) 8,
   putU (orSentinel op.sog sogSentinel) 10,
   putU op.posAcc 1,
   putS (orSentinel op.lon lonSentinel) 28,
   putS (orSentinel op.lat latSentinel) 27,
   putU (orSentinel op.cog cogSentinel) 12,
   putU (orSentinel op.heading headingSentinel) 9,
   putU (orSentinel op.utcSec utcSecSentinel) 6,
   putU op.maneuver 2,
   putU 0 3,
   putU op.raim 1,
   putU op.radio 19]

/-- `POS.ENCODE`, R228, R210: the type first, then the fields in layout order; the first violation is the one reported. -/
def posEncode (op : PosOperand) : Except Cause Bits :=
  if op.msgType = 1 ∨ op.msgType = 2 ∨ op.msgType = 3 then appendAll (posWrites op)
  else .error .encType

/-- The record registers are written and the record is delivered, R227. The operand of R227 is a message of type 1, 2 or 3; presented
alone on bits of another type, the record is delivered with that type, and with CHAN neither 0x41 nor 0x42, with that byte as its
channel (DESIGN CHOICE, log 30). -/
def posDecodeInto (s : State) : State :=
  let r := posDecode s.tr.bits s.tr.chan
  (s.withTr { s.tr with pos := r }).withResp ⟨.pos, .ok, .pos r⟩

/-- The operand registers take the operand and BITS the packed message, R228. -/
def posEncodeInto (s : State) (op : PosOperand) : State :=
  s.writeOrAbort (posEncode op) (fun tr b => { tr with posOp := op, bits := b })

/-- The physical values, R229, R92: exact rationals, computed by the reader of a record and not by the hardware (R198). -/
def PosRecord.speedKnots (r : PosRecord) : ℚ := r.sog.toNat / 10
def PosRecord.courseDegrees (r : PosRecord) : ℚ := r.cog.toNat / 10
def PosRecord.lonDegrees (r : PosRecord) : ℚ := r.lon.toInt / 600000
def PosRecord.latDegrees (r : PosRecord) : ℚ := r.lat.toInt / 600000

/-! ### Meanings -/

/-- R227: BITS and CHAN are the registers. The type of the bits is not tested here (log 30). -/
def execPosDecode (s : State) : Host.Outcome State Fault Refusal := .next (posDecodeInto s)

/-- R228. -/
def execPosEncode (op : PosOperand) (s : State) : Host.Outcome State Fault Refusal := .next (posEncodeInto s op)

end Sys2Proof.Machine
end

