-- ==== Sys2Proof/Machine/Static.lean ====
section
/-! DEFINITION. Static: the Static and Voyage Report of message type 5 (spec 45_static_voyage_report.md R240 to R268, layout
30_encoding.md R84). -/

namespace Sys2Proof.Machine

/-- `STAT.DECODE`, R262, with the offsets and widths of R84 (log 20): bit 423 and bits from 424 on are not read; the DTE bit is
inverted (R259). -/
def statDecode (b : Bits) (chan : Byte) : StatRecord where
  msgType := BitVec.ofNat 6 (getU b 0 6)
  repeatInd := BitVec.ofNat 2 (getU b 6 2)
  mmsi := BitVec.ofNat 30 (getU b 8 30)
  aisVersion := BitVec.ofNat 2 (getU b 38 2)
  imo := BitVec.ofNat 30 (getU b 40 30)
  callsign := getT b 70 7
  name := getT b 112 20
  shipType := BitVec.ofNat 8 (getU b 232 8)
  toBow := BitVec.ofNat 9 (getU b 240 9)
  toStern := BitVec.ofNat 9 (getU b 249 9)
  toPort := BitVec.ofNat 6 (getU b 258 6)
  toStarboard := BitVec.ofNat 6 (getU b 264 6)
  epfd := BitVec.ofNat 4 (getU b 270 4)
  etaMonth := BitVec.ofNat 4 (getU b 274 4)
  etaDay := BitVec.ofNat 5 (getU b 278 5)
  etaHour := BitVec.ofNat 5 (getU b 283 5)
  etaMinute := BitVec.ofNat 6 (getU b 288 6)
  draught := BitVec.ofNat 8 (getU b 294 8)
  destination := getT b 302 20
  dteAvailable := BitVec.ofNat 1 (1 - getU b 422 1)
  channel := chan

/-- The sentinels of the Static layout, R84, R199, R264. -/
def etaMonthSentinel : Int := 0
def etaDaySentinel : Int := 0
def etaHourSentinel : Int := 24
def etaMinuteSentinel : Int := 60

/-- The writes of `STAT.ENCODE` in layout order, R263. -/
def statWrites (op : StatOperand) : List (Except Cause Bits) :=
  [putU 5 6,
   putU op.repeatInd 2,
   putU op.mmsi 30,
   putU op.aisVersion 2,
   putU op.imo 30,
   .ok (putT op.callsign 7),
   .ok (putT op.name 20),
   putU op.shipType 8,
   putU op.toBow 9,
   putU op.toStern 9,
   putU op.toPort 6,
   putU op.toStarboard 6,
   putU op.epfd 4,
   putU (orSentinel op.etaMonth etaMonthSentinel) 4,
   putU (orSentinel op.etaDay etaDaySentinel) 5,
   putU (orSentinel op.etaHour etaHourSentinel) 5,
   putU (orSentinel op.etaMinute etaMinuteSentinel) 6,
   putU op.draught 8,
   .ok (putT op.destination 20),
   putU (1 - Int.ofNat op.dteAvailable.toNat) 1,
   putU 0 1]

/-- `STAT.ENCODE`, R263: the fields in layout order; the first violation is the one reported. -/
def statEncode (op : StatOperand) : Except Cause Bits := appendAll (statWrites op)

/-- The record registers are written and the record is delivered, R262. The operand of R262 is a message of type 5; presented alone
on bits of another type, the record is delivered with that type, and with CHAN neither 0x41 nor 0x42, with that byte as its channel
(DESIGN CHOICE, log 30). -/
def statDecodeInto (s : State) : State :=
  let r := statDecode s.tr.bits s.tr.chan
  (s.withTr { s.tr with stat := r }).withResp ⟨.stat, .ok, .stat r⟩

/-- The operand registers take the operand and BITS the packed message, R263. -/
def statEncodeInto (s : State) (op : StatOperand) : State :=
  s.writeOrAbort (statEncode op) (fun tr b => { tr with statOp := op, bits := b })

/-- The draught in metres, R257, R92: an exact rational, computed by the reader of a record. -/
def StatRecord.draughtMetres (r : StatRecord) : ℚ := r.draught.toNat / 10

/-! ### Meanings -/

/-- R262: BITS and CHAN are the registers. The type of the bits is not tested here (log 30). -/
def execStatDecode (s : State) : Host.Outcome State Fault Refusal := .next (statDecodeInto s)

/-- R263. -/
def execStatEncode (op : StatOperand) (s : State) : Host.Outcome State Fault Refusal := .next (statEncodeInto s op)

end Sys2Proof.Machine
end

