-- ==== Sys2Proof/Machine/Transcoder.lean ====
section
/-! DEFINITION. Transcoder: the Payload Bit Transcoder, 6-bit ASCII armor in both directions (spec 42_transcoder.md R170 to
R181). -/

namespace Sys2Proof.Machine

/-- `ARM.DEC6(c)`, R170, on the alphabet; outside it the value is free (R171, U3; log 12). -/
def armDec6 (c : Byte) : BitVec 6 :=
  if isArmor c then
    let code := c.toNat - 48
    BitVec.ofNat 6 (if 40 < code then code - 8 else code)
  else Config.armorOutside c

/-- `ARM.UNPACK(PAYLOAD)`, R172. A byte outside the alphabet, which R172 does not have, appends six free bits (DESIGN CHOICE,
log 12); a payload of any length is unpacked, beyond R29's greatest length of BITS too (DESIGN CHOICE, log 30). -/
def armUnpack (payload : Bytes) : Bits := payload.flatMap (fun c => bitsW 6 (armDec6 c).toNat)

/-- The number of bits that a fill count strips, R173: 6 strips none. -/
def fillStrips (fill : Fin 8) : Nat := if fill.val = Config.fillQuirk then 0 else fill.val

/-- `ARM.STRIP(B, FILL)`, R173, R174. -/
def armStrip (b : Bits) (fill : Fin 8) : Bits :=
  let f := fillStrips fill
  if f = 0 then b else if b.length ≤ f then [] else b.take (b.length - f)

/-- `ARM.DECODE(PAYLOAD, FILL)`, R180. -/
def armDecode (payload : Bytes) (fill : Fin 8) : Bits := armStrip (armUnpack payload) fill

/-- `ARM.PAD6(B)`, R175. -/
def armPad6 (b : Bits) : Bits := b ++ List.replicate ((6 - b.length % 6) % 6) false

/-- `ARM.ENC6(v)`, R176, R178: a value outside 0..63 is the fault ENC_ARMOR_RANGE. -/
def armEnc6 (v : Int) : Except Cause Byte :=
  if v < 0 ∨ 63 < v then .error .encArmorRange
  else if v < 40 then .ok (BitVec.ofNat 8 (v.toNat + 48))
  else .ok (BitVec.ofNat 8 (v.toNat + 56))

/-- `ARM.PACK(B)`, R177, one 6-bit group after the other; bits beyond the last whole group are outside its domain. -/
def armPack : Bits → Except Cause Bytes
  | a :: b :: c :: d :: e :: f :: rest => do
    let ch ← armEnc6 (Int.ofNat (uint [a, b, c, d, e, f]))
    let more ← armPack rest
    .ok (ch :: more)
  | _ => .ok []

/-- `ARM.ENCODE(B)`, R181. -/
def armEncode (b : Bits) : Except Cause Bytes := armPack (armPad6 b)

/-- The string a packing built: it is returned and stands in ACC (log 5). -/
def Transients.withString (tr : Transients) (str : Bytes) : Transients := { tr with ret := .str str, acc := str }

/-! ### Meanings -/

/-- R170: the 6-bit value is returned. -/
def execArmDec6 (c : Byte) (s : State) : Host.Outcome State Fault Refusal := .next (s.returns (.nat (armDec6 c).toNat))

/-- R172: BITS is written from PAYLOAD. -/
def execArmUnpack (s : State) : Host.Outcome State Fault Refusal := .next (s.withBits (armUnpack s.tr.payload))

/-- R173, R174: BITS is stripped by FILL. -/
def execArmStrip (s : State) : Host.Outcome State Fault Refusal := .next (s.withBits (armStrip s.tr.bits s.tr.fill))

/-- R180: BITS is written from PAYLOAD and FILL. -/
def execArmDecode (s : State) : Host.Outcome State Fault Refusal :=
  .next (s.withBits (armDecode s.tr.payload s.tr.fill))

/-- R175: BITS is padded (R50). -/
def execArmPad6 (s : State) : Host.Outcome State Fault Refusal := .next (s.withBits (armPad6 s.tr.bits))

/-- R176, R178. -/
def execArmEnc6 (v : Int) (s : State) : Host.Outcome State Fault Refusal :=
  .next (s.writeOrAbort (armEnc6 v) (fun tr c => { tr with ret := .byte c }))

/-- R177: BITS is the register. The domain is the bit strings whose length is a multiple of 6; on any other the string is free
(log 14). -/
def execArmPack (s : State) : Host.Outcome State Fault Refusal :=
  .next (if s.tr.bits.length % 6 = 0 then s.writeOrAbort (armPack s.tr.bits) Transients.withString
    else s.withTr (s.tr.withString (Config.undefinedPack s.tr.bits)))

/-- R181: BITS is padded, then packed. -/
def execArmEncode (s : State) : Host.Outcome State Fault Refusal :=
  .next ((s.withBits (armPad6 s.tr.bits)).writeOrAbort (armEncode s.tr.bits) Transients.withString)

end Sys2Proof.Machine
end

