-- ==== Sys2Proof/Machine/Payload.lean ====
section
/-! DEFINITION. Payload: the type dispatch FLD.TYPE (spec 43_field_primitives.md R197), the common tail of DECODE, DECODE_PAYLOAD
(47_host_operations.md R307), and what a message-type row does in each direction (30_encoding.md R81, R82; log 16). -/

namespace Sys2Proof.Machine

/-- The layout chosen is decoded, R197. -/
def decodeLayout (s : State) (l : Layout) : State :=
  match l with
  | .position => posDecodeInto s
  | .static => statDecodeInto s

/-- `FLD.TYPE(BITS)`, R197: a drop, or the decode of the layout. -/
def fldTypeInto (s : State) : State :=
  match fldTypeOf s.tr.bits with
  | .ok l => decodeLayout s l
  | .error c => s.abort c

/-- `DECODE_PAYLOAD(PAYLOAD, FILL, CHAN)`, R307, on the registers. -/
def decodePayloadInto (s : State) : State := fldTypeInto (s.withBits (armDecode s.tr.payload s.tr.fill))

/-- The response of `DECODE_PAYLOAD`, R307: the record, or the cause of the drop. -/
def payloadResponse (payload : Bytes) (fill : Fin 8) (chan : Byte) : Response :=
  let b := armDecode payload fill
  match fldTypeOf b with
  | .ok .position => ⟨.pos, .ok, .pos (posDecode b chan)⟩
  | .ok .static => ⟨.stat, .ok, .stat (statDecode b chan)⟩
  | .error c => Response.ofCause c

/-- A message-type row receiving: the message whose type field is `ty` and whose other bits are `rest` stands in BITS and takes
the path of its type (R81, R82, R197; log 16). The bits are held whole, also more of them than R29's greatest length of BITS
(DESIGN CHOICE, log 30); R197 ignores what the layout does not read. -/
def receiveType (ty : Nat) (rest : Bits) (s : State) : State :=
  match layoutOf ty (Config.typeW + rest.length) with
  | .ok l => decodeLayout (s.withBits (bitsW Config.typeW ty ++ rest)) l
  | .error c => s.abort c

/-- A message-type row other than type 5 transmitting: the record with that type is presented to the Position encoder (R228),
which refuses a type other than 1, 2 and 3 (R210, R332; log 16). -/
def positionType (ty : Nat) (u : PosUse) (s : State) : State :=
  match u with
  | .rx rest => receiveType ty rest s
  | .tx op => posEncodeInto s { op with msgType := ty }

/-- The row of type 5 (R262, R263; log 16). -/
def staticType (u : StatUse) (s : State) : State :=
  match u with
  | .rx rest => receiveType 5 rest s
  | .tx op => statEncodeInto s op

/-! ### Meanings -/

/-- R197: BITS is the register. -/
def execFldType (s : State) : Host.Outcome State Fault Refusal := .next (fldTypeInto s)

/-- R307: PAYLOAD, FILL and CHAN are the registers. -/
def execDecodePayload (s : State) : Host.Outcome State Fault Refusal := .next (decodePayloadInto s)

end Sys2Proof.Machine
end

