-- ==== Sys2Proof/Machine/MsgTypes.lean ====
section
/-! DEFINITION. MsgTypes: the 64 rows of the message type (spec 30_encoding.md R81, R82): types 1, 2 and 3 are Position messages,
type 5 is the Static message, every other type has no decode path and is refused by the Position encoder (log 16). -/

namespace Sys2Proof.Machine

def execMsgtype0 (u : PosUse) (s : State) : Host.Outcome State Fault Refusal := .next (positionType 0 u s)
def execMsgtype1 (u : PosUse) (s : State) : Host.Outcome State Fault Refusal := .next (positionType 1 u s)
def execMsgtype2 (u : PosUse) (s : State) : Host.Outcome State Fault Refusal := .next (positionType 2 u s)
def execMsgtype3 (u : PosUse) (s : State) : Host.Outcome State Fault Refusal := .next (positionType 3 u s)
def execMsgtype4 (u : PosUse) (s : State) : Host.Outcome State Fault Refusal := .next (positionType 4 u s)
def execMsgtype5 (u : StatUse) (s : State) : Host.Outcome State Fault Refusal := .next (staticType u s)
def execMsgtype6 (u : PosUse) (s : State) : Host.Outcome State Fault Refusal := .next (positionType 6 u s)
def execMsgtype7 (u : PosUse) (s : State) : Host.Outcome State Fault Refusal := .next (positionType 7 u s)
def execMsgtype8 (u : PosUse) (s : State) : Host.Outcome State Fault Refusal := .next (positionType 8 u s)
def execMsgtype9 (u : PosUse) (s : State) : Host.Outcome State Fault Refusal := .next (positionType 9 u s)
def execMsgtype10 (u : PosUse) (s : State) : Host.Outcome State Fault Refusal := .next (positionType 10 u s)
def execMsgtype11 (u : PosUse) (s : State) : Host.Outcome State Fault Refusal := .next (positionType 11 u s)
def execMsgtype12 (u : PosUse) (s : State) : Host.Outcome State Fault Refusal := .next (positionType 12 u s)
def execMsgtype13 (u : PosUse) (s : State) : Host.Outcome State Fault Refusal := .next (positionType 13 u s)
def execMsgtype14 (u : PosUse) (s : State) : Host.Outcome State Fault Refusal := .next (positionType 14 u s)
def execMsgtype15 (u : PosUse) (s : State) : Host.Outcome State Fault Refusal := .next (positionType 15 u s)
def execMsgtype16 (u : PosUse) (s : State) : Host.Outcome State Fault Refusal := .next (positionType 16 u s)
def execMsgtype17 (u : PosUse) (s : State) : Host.Outcome State Fault Refusal := .next (positionType 17 u s)
def execMsgtype18 (u : PosUse) (s : State) : Host.Outcome State Fault Refusal := .next (positionType 18 u s)
def execMsgtype19 (u : PosUse) (s : State) : Host.Outcome State Fault Refusal := .next (positionType 19 u s)
def execMsgtype20 (u : PosUse) (s : State) : Host.Outcome State Fault Refusal := .next (positionType 20 u s)
def execMsgtype21 (u : PosUse) (s : State) : Host.Outcome State Fault Refusal := .next (positionType 21 u s)
def execMsgtype22 (u : PosUse) (s : State) : Host.Outcome State Fault Refusal := .next (positionType 22 u s)
def execMsgtype23 (u : PosUse) (s : State) : Host.Outcome State Fault Refusal := .next (positionType 23 u s)
def execMsgtype24 (u : PosUse) (s : State) : Host.Outcome State Fault Refusal := .next (positionType 24 u s)
def execMsgtype25 (u : PosUse) (s : State) : Host.Outcome State Fault Refusal := .next (positionType 25 u s)
def execMsgtype26 (u : PosUse) (s : State) : Host.Outcome State Fault Refusal := .next (positionType 26 u s)
def execMsgtype27 (u : PosUse) (s : State) : Host.Outcome State Fault Refusal := .next (positionType 27 u s)
def execMsgtype28 (u : PosUse) (s : State) : Host.Outcome State Fault Refusal := .next (positionType 28 u s)
def execMsgtype29 (u : PosUse) (s : State) : Host.Outcome State Fault Refusal := .next (positionType 29 u s)
def execMsgtype30 (u : PosUse) (s : State) : Host.Outcome State Fault Refusal := .next (positionType 30 u s)
def execMsgtype31 (u : PosUse) (s : State) : Host.Outcome State Fault Refusal := .next (positionType 31 u s)
def execMsgtype32 (u : PosUse) (s : State) : Host.Outcome State Fault Refusal := .next (positionType 32 u s)
def execMsgtype33 (u : PosUse) (s : State) : Host.Outcome State Fault Refusal := .next (positionType 33 u s)
def execMsgtype34 (u : PosUse) (s : State) : Host.Outcome State Fault Refusal := .next (positionType 34 u s)
def execMsgtype35 (u : PosUse) (s : State) : Host.Outcome State Fault Refusal := .next (positionType 35 u s)
def execMsgtype36 (u : PosUse) (s : State) : Host.Outcome State Fault Refusal := .next (positionType 36 u s)
def execMsgtype37 (u : PosUse) (s : State) : Host.Outcome State Fault Refusal := .next (positionType 37 u s)
def execMsgtype38 (u : PosUse) (s : State) : Host.Outcome State Fault Refusal := .next (positionType 38 u s)
def execMsgtype39 (u : PosUse) (s : State) : Host.Outcome State Fault Refusal := .next (positionType 39 u s)
def execMsgtype40 (u : PosUse) (s : State) : Host.Outcome State Fault Refusal := .next (positionType 40 u s)
def execMsgtype41 (u : PosUse) (s : State) : Host.Outcome State Fault Refusal := .next (positionType 41 u s)
def execMsgtype42 (u : PosUse) (s : State) : Host.Outcome State Fault Refusal := .next (positionType 42 u s)
def execMsgtype43 (u : PosUse) (s : State) : Host.Outcome State Fault Refusal := .next (positionType 43 u s)
def execMsgtype44 (u : PosUse) (s : State) : Host.Outcome State Fault Refusal := .next (positionType 44 u s)
def execMsgtype45 (u : PosUse) (s : State) : Host.Outcome State Fault Refusal := .next (positionType 45 u s)
def execMsgtype46 (u : PosUse) (s : State) : Host.Outcome State Fault Refusal := .next (positionType 46 u s)
def execMsgtype47 (u : PosUse) (s : State) : Host.Outcome State Fault Refusal := .next (positionType 47 u s)
def execMsgtype48 (u : PosUse) (s : State) : Host.Outcome State Fault Refusal := .next (positionType 48 u s)
def execMsgtype49 (u : PosUse) (s : State) : Host.Outcome State Fault Refusal := .next (positionType 49 u s)
def execMsgtype50 (u : PosUse) (s : State) : Host.Outcome State Fault Refusal := .next (positionType 50 u s)
def execMsgtype51 (u : PosUse) (s : State) : Host.Outcome State Fault Refusal := .next (positionType 51 u s)
def execMsgtype52 (u : PosUse) (s : State) : Host.Outcome State Fault Refusal := .next (positionType 52 u s)
def execMsgtype53 (u : PosUse) (s : State) : Host.Outcome State Fault Refusal := .next (positionType 53 u s)
def execMsgtype54 (u : PosUse) (s : State) : Host.Outcome State Fault Refusal := .next (positionType 54 u s)
def execMsgtype55 (u : PosUse) (s : State) : Host.Outcome State Fault Refusal := .next (positionType 55 u s)
def execMsgtype56 (u : PosUse) (s : State) : Host.Outcome State Fault Refusal := .next (positionType 56 u s)
def execMsgtype57 (u : PosUse) (s : State) : Host.Outcome State Fault Refusal := .next (positionType 57 u s)
def execMsgtype58 (u : PosUse) (s : State) : Host.Outcome State Fault Refusal := .next (positionType 58 u s)
def execMsgtype59 (u : PosUse) (s : State) : Host.Outcome State Fault Refusal := .next (positionType 59 u s)
def execMsgtype60 (u : PosUse) (s : State) : Host.Outcome State Fault Refusal := .next (positionType 60 u s)
def execMsgtype61 (u : PosUse) (s : State) : Host.Outcome State Fault Refusal := .next (positionType 61 u s)
def execMsgtype62 (u : PosUse) (s : State) : Host.Outcome State Fault Refusal := .next (positionType 62 u s)
def execMsgtype63 (u : PosUse) (s : State) : Host.Outcome State Fault Refusal := .next (positionType 63 u s)

end Sys2Proof.Machine
end

