-- ==== Sys2Proof/Machine/Parser.lean ====
section
/-! DEFINITION. Parser: the Checksum Verifier and the Sentence Parser (spec 40_parser_checksum.md R100 to R119) and the two
sentence rows (30_encoding.md R72). -/

namespace Sys2Proof.Machine

/-! ### Checksum Verifier -/

/-- `CHK.XOR(body)`, R100. -/
def xorBytes (body : Bytes) : Byte := body.foldl (fun c b => c ^^^ b) 0

/-- `CHK.HEX2(h, l)`, R101. -/
def hexPair (h l : Byte) : Option Byte :=
  match hexVal h, hexVal l with
  | some a, some b => some (BitVec.ofNat 8 (16 * a + b))
  | _, _ => none

/-- `CHK.VERIFY(body, CKSUM)`, R102. -/
def checksumOk (body : Bytes) (ck : Byte) : Bool := xorBytes body == ck

/-! ### Sentence Parser -/

/-- What `PARSE.FRAME` finds, R103: the body and the two checksum digits. -/
structure Frame where
  body : Bytes
  h : Byte
  l : Byte
  deriving DecidableEq, Repr

/-- `PARSE.FRAME(LINE)`, R103. -/
def frameOf (str : Bytes) : Except Cause Frame :=
  let n := str.length
  if n < 4 ∨ str[0]? ≠ some 0x21#8 ∨ str[n - 3]? ≠ some 0x2A#8 then .error .dropGrammar
  else
    let body := (str.drop 1).take (n - 4)
    if body.contains 0x2A#8 then .error .dropGrammar
    else .ok ⟨body, str.getD (n - 2) 0, str.getD (n - 1) 0⟩

/-- `split(body, ',')`, R104: a body with m commas gives m + 1 fields. -/
def splitComma : Bytes → List Bytes
  | [] => [[]]
  | c :: cs =>
    if c = 0x2C#8 then [] :: splitComma cs
    else
      match splitComma cs with
      | [] => [[c]]
      | f :: fs => (c :: f) :: fs

/-- The five bytes `AIVDM` and `AIVDO`. -/
def aivdmBytes : Bytes := [0x41#8, 0x49#8, 0x56#8, 0x44#8, 0x4D#8]
def aivdoBytes : Bytes := [0x41#8, 0x49#8, 0x56#8, 0x44#8, 0x4F#8]

/-- `PARSE.TAG`, R104: 0 for `AIVDM`, 1 for `AIVDO`. -/
def tagOf (f : Bytes) : Except Cause (BitVec 1) :=
  if f = aivdmBytes then .ok 0 else if f = aivdoBytes then .ok 1 else .error .dropGrammar

/-- The seven fields of a body, R104. -/
structure Fields where
  f0 : Bytes
  f1 : Bytes
  f2 : Bytes
  f3 : Bytes
  f4 : Bytes
  f5 : Bytes
  f6 : Bytes
  deriving DecidableEq, Repr

def Fields.toList (f : Fields) : List Bytes := [f.f0, f.f1, f.f2, f.f3, f.f4, f.f5, f.f6]

/-- `PARSE.SPLIT(body)`, R104: exactly seven fields. -/
def fieldsOf (body : Bytes) : Except Cause Fields :=
  match splitComma body with
  | [f0, f1, f2, f3, f4, f5, f6] => .ok ⟨f0, f1, f2, f3, f4, f5, f6⟩
  | _ => .error .dropGrammar

def isDigit (c : Byte) : Bool := decide (0x30 ≤ c.toNat ∧ c.toNat ≤ 0x39)

/-- The loop of `PARSE.INT`, R105. -/
def digitsFrom : Nat → Bytes → Option Nat
  | v, [] => some v
  | v, c :: cs => if isDigit c then digitsFrom (10 * v + (c.toNat - 0x30)) cs else none

/-- `PARSE.INT(s)`, R105. -/
def intOf (str : Bytes) : Option Nat := if str.isEmpty then none else digitsFrom 0 str

/-- `PARSE.TOTAL` and `PARSE.PART`, R106, R107: a positive number, at most PARTS_MAX. -/
def countOf (cfg : Config.Params) (f : Bytes) : Except Cause Nat :=
  match intOf f with
  | none => .error .dropGrammar
  | some v => if v = 0 then .error .dropGrammar else if cfg.partsMax < v then .error .dropLimit else .ok v

/-- `PARSE.SEQ`, R108: printable bytes. -/
def seqOf (f : Bytes) : Except Cause Bytes :=
  if f.all (fun c => decide (0x20 ≤ c.toNat ∧ c.toNat ≤ 0x7E)) then .ok f else .error .dropGrammar

/-- `PARSE.CHAN`, R109. -/
def chanOf (f : Bytes) : Except Cause Byte :=
  if f = [0x41#8] then .ok 0x41#8 else if f = [0x42#8] then .ok 0x42#8 else .error .dropGrammar

/-- `PARSE.PAYLOAD`, R110. -/
def payloadOf (f : Bytes) : Except Cause Bytes := if f.all isArmor then .ok f else .error .dropGrammar

/-- `PARSE.FILL`, R111. -/
def fillOf (f : Bytes) : Except Cause (Fin 8) :=
  match intOf f with
  | none => .error .dropGrammar
  | some v => if h : v < 8 then .ok ⟨v, h⟩ else .error .dropGrammar

/-- `PARSE.CKSUM`, R112. -/
def cksumOf (h l : Byte) : Except Cause Byte :=
  match hexPair h l with
  | none => .error .dropGrammar
  | some v => .ok v

/-- The parse registers of an admitted sentence, R28. -/
structure Parsed where
  tag : BitVec 1
  total : Nat
  part : Nat
  seq : Bytes
  chan : Byte
  payload : Bytes
  fill : Fin 8
  cksum : Byte
  deriving DecidableEq, Repr

/-- `PARSE(LINE)`, R113: the first failing step decides the cause (R116, R338). -/
def parseLine (cfg : Config.Params) (line : Bytes) : Except Cause Parsed :=
  if cfg.sentMax < line.length then .error .dropLimit
  else do
    let fr ← frameOf line
    let f ← fieldsOf fr.body
    let tag ← tagOf f.f0
    let total ← countOf cfg f.f1
    let part ← countOf cfg f.f2
    let seq ← seqOf f.f3
    let chan ← chanOf f.f4
    let payload ← payloadOf f.f5
    let fill ← fillOf f.f6
    let cksum ← cksumOf fr.h fr.l
    if checksumOk fr.body cksum then .ok ⟨tag, total, part, seq, chan, payload, fill, cksum⟩
    else .error .dropChecksum

/-- The parse registers written, R28. -/
def Transients.withParsed (tr : Transients) (p : Parsed) : Transients :=
  { tr with
    tag := p.tag, total := p.total, part := p.part, seq := p.seq, chan := p.chan, payload := p.payload, fill := p.fill,
    cksum := p.cksum }

/-- LINE takes the string and is parsed. -/
def parseInto (s : State) (line : Bytes) : State :=
  (s.withTr { s.tr with line := line }).writeOrAbort (parseLine s.cfg line) Transients.withParsed

/-! ### Meanings -/

/-- R100. -/
def execChkXor (body : Bytes) (s : State) : Host.Outcome State Fault Refusal := .next (s.returns (.byte (xorBytes body)))

/-- R101. -/
def execChkHex2 (h l : Byte) (s : State) : Host.Outcome State Fault Refusal :=
  .next (s.returns ((hexPair h l).elim .nothing .byte))

/-- R102: CKSUM is the register; a difference drops. -/
def execChkVerify (body : Bytes) (s : State) : Host.Outcome State Fault Refusal :=
  .next (if checksumOk body s.tr.cksum then s.returns (.truth true) else s.abort .dropChecksum)

/-- R103: LINE is the register; the body and the two last bytes are returned. Presented alone, without the length test of R113 before
it, it takes also a LINE longer than SENT_MAX (DESIGN CHOICE, log 30). -/
def execParseFrame (s : State) : Host.Outcome State Fault Refusal :=
  .next (s.writeOrAbort (frameOf s.tr.line) (fun tr fr => { tr with ret := .frame fr.body fr.h fr.l }))

/-- R104: the fields are returned and TAG is written. Presented alone on a body with a star, it keeps the star in its field (DESIGN
CHOICE, log 30). -/
def execParseSplit (body : Bytes) (s : State) : Host.Outcome State Fault Refusal :=
  .next (s.writeOrAbort
    (do
      let f ← fieldsOf body
      let tag ← tagOf f.f0
      .ok (f, tag))
    (fun tr r => { tr with ret := .strs r.1.toList, tag := r.2 }))

/-- R105. -/
def execParseInt (str : Bytes) (s : State) : Host.Outcome State Fault Refusal :=
  .next (s.returns ((intOf str).elim .nothing .nat))

/-- R106. -/
def execParseTotal (f : Bytes) (s : State) : Host.Outcome State Fault Refusal :=
  .next (s.writeOrAbort (countOf s.cfg f) (fun tr v => { tr with total := v }))

/-- R107. -/
def execParsePart (f : Bytes) (s : State) : Host.Outcome State Fault Refusal :=
  .next (s.writeOrAbort (countOf s.cfg f) (fun tr v => { tr with part := v }))

/-- R108. A comma or a star, which the steps before leave none of, is kept when presented alone (DESIGN CHOICE, log 30). -/
def execParseSeq (f : Bytes) (s : State) : Host.Outcome State Fault Refusal :=
  .next (s.writeOrAbort (seqOf f) (fun tr v => { tr with seq := v }))

/-- R109. -/
def execParseChan (f : Bytes) (s : State) : Host.Outcome State Fault Refusal :=
  .next (s.writeOrAbort (chanOf f) (fun tr v => { tr with chan := v }))

/-- R110. Presented alone, it takes a string longer than a sentence can hold as well (DESIGN CHOICE, log 30). -/
def execParsePayload (f : Bytes) (s : State) : Host.Outcome State Fault Refusal :=
  .next (s.writeOrAbort (payloadOf f) (fun tr v => { tr with payload := v }))

/-- R111: 6 stays 6 here. -/
def execParseFill (f : Bytes) (s : State) : Host.Outcome State Fault Refusal :=
  .next (s.writeOrAbort (fillOf f) (fun tr v => { tr with fill := v }))

/-- R112. -/
def execParseCksum (h l : Byte) (s : State) : Host.Outcome State Fault Refusal :=
  .next (s.writeOrAbort (cksumOf h l) (fun tr v => { tr with cksum := v }))

/-- R113. -/
def execParse (line : Bytes) (s : State) : Host.Outcome State Fault Refusal := .next (parseInto s line)

/-- R72, R113: the sentence `!AIVDM` followed by the operand. -/
def execAivdm (rest : Bytes) (s : State) : Host.Outcome State Fault Refusal :=
  .next (parseInto s (0x21#8 :: aivdmBytes ++ rest))

/-- R72, R113: the sentence `!AIVDO` followed by the operand. -/
def execAivdo (rest : Bytes) (s : State) : Host.Outcome State Fault Refusal :=
  .next (parseInto s (0x21#8 :: aivdoBytes ++ rest))

end Sys2Proof.Machine
end

