-- ==== Sys2Proof/Machine/Emitter.lean ====
section
/-! DEFINITION. Emitter: the Sentence Emitter (spec 46_emitter.md R280 to R291). -/

namespace Sys2Proof.Machine

/-- The greedy division of `EMT.CHUNK`, R281, with enough fuel to reach the end. -/
def chunksFrom : Nat → Bytes → List Bytes
  | 0, _ => []
  | fuel + 1, p => if p.isEmpty then [] else p.take Config.chunkMax :: chunksFrom fuel (p.drop Config.chunkMax)

/-- `EMT.CHUNK(P)`, R281. The chunks of the empty string are free (log 30). -/
def chunksOf (p : Bytes) : List Bytes := if p.isEmpty then Config.emptyChunks else chunksFrom p.length p

/-- `EMT.FILL(n)`, R282. -/
def emtFill (n : Nat) : Nat := (8 - (6 * n) % 8) % 8

/-- `EMT.SEQ(N, seq_draw)`, R283: empty for a single sentence. -/
def emtSeq (n : Nat) (d : SeqDraw) : Bytes := if n = 1 then [] else dec d.digit

/-- `EMT.CHAN(c)`, R284. -/
def emtChan (c : Bytes) : Except Cause Byte :=
  match c with
  | [ch] => if ch = 0x41#8 ∨ ch = 0x42#8 then .ok ch else .error .encChannel
  | _ => .error .encChannel

/-- `EMT.CKSUM(body)`, R286. -/
def emtCksum (body : Bytes) : Bytes := hex2Upper (xorBytes body)

/-- The one-byte string of a comma. -/
def commaBytes : Bytes := [0x2C#8]

/-- The body of a line, R285. -/
def emtBody (n i : Nat) (seqId : Bytes) (ch : Byte) (chunk : Bytes) (f : Nat) : Bytes :=
  aivdmBytes ++ commaBytes ++ dec n ++ commaBytes ++ dec i ++ commaBytes ++ seqId ++ commaBytes ++ [ch] ++ commaBytes ++ chunk
    ++ commaBytes ++ dec f

/-- `EMT.LINE`, R285. -/
def emtLine (n i : Nat) (seqId : Bytes) (ch : Byte) (chunk : Bytes) (f : Nat) : Bytes :=
  let body := emtBody n i seqId ch chunk f
  [0x21#8] ++ body ++ [0x2A#8] ++ emtCksum body

/-- The loop of `EMT`, R287, from part `i` on. -/
def emtLinesFrom (n : Nat) (seqId : Bytes) (ch : Byte) : Nat → List Bytes → List Bytes
  | _, [] => []
  | i, c :: cs => emtLine n i seqId ch c (emtFill c.length) :: emtLinesFrom n seqId ch (i + 1) cs

/-- `EMT(B, c, seq_draw)`, R287. -/
def emtLines (b : Bits) (c : Bytes) (d : SeqDraw) : Except Cause (List Bytes) := do
  let p ← armEncode b
  let ch ← emtChan c
  let chunks := chunksOf p
  .ok (emtLinesFrom chunks.length (emtSeq chunks.length d) ch 1 chunks)

/-! ### Meanings -/

/-- R280: BITS is the register; it is padded and packed. -/
def execEmtPad (s : State) : Host.Outcome State Fault Refusal :=
  .next ((s.withBits (armPad6 s.tr.bits)).writeOrAbort (armEncode s.tr.bits) Transients.withString)

/-- R281. -/
def execEmtChunk (p : Bytes) (s : State) : Host.Outcome State Fault Refusal := .next (s.returns (.strs (chunksOf p)))

/-- R282. A length that no chunk has, outside 1..60, is computed from in the same way (DESIGN CHOICE, log 30). -/
def execEmtFill (n : Nat) (s : State) : Host.Outcome State Fault Refusal := .next (s.returns (.nat (emtFill n)))

/-- R283. A count of 0, which R281 gives for no payload, is drawn for as a count above 1 is (DESIGN CHOICE, log 30). -/
def execEmtSeq (n : Nat) (d : SeqDraw) (s : State) : Host.Outcome State Fault Refusal :=
  .next (s.returns (.str (emtSeq n d)))

/-- R284. -/
def execEmtChan (c : Bytes) (s : State) : Host.Outcome State Fault Refusal :=
  .next (s.writeOrAbort (emtChan c) (fun tr ch => { tr with ret := .byte ch }))

/-- R285. A part index outside 1..N, or a channel, chunk or fill count that no operation of the CORE gives it, is written as the
pseudocode writes any (DESIGN CHOICE, log 30). -/
def execEmtLine (n i : Nat) (seqId : Bytes) (ch : Byte) (chunk : Bytes) (f : Nat) (s : State) :
    Host.Outcome State Fault Refusal :=
  .next (s.returns (.str (emtLine n i seqId ch chunk f)))

/-- R286. -/
def execEmtCksum (body : Bytes) (s : State) : Host.Outcome State Fault Refusal := .next (s.returns (.str (emtCksum body)))

/-- R287: BITS is the register; OUT is written and delivered whole, or the fault is taken. Presented alone with BITS so long that the
payload has more than two chunks, OUT takes every line, more or longer ones than R35 says it holds (DESIGN CHOICE, log 30). -/
def execEmt (c : Bytes) (d : SeqDraw) (s : State) : Host.Outcome State Fault Refusal :=
  .next (match emtLines s.tr.bits c d with
    | .ok lines =>
      (s.withTr { s.tr with bits := armPad6 s.tr.bits, out := lines }).withResp ⟨.lines, .ok, .lines lines⟩
    | .error cause => s.abort cause)

end Sys2Proof.Machine
end

