-- ==== Sys2Proof/Machine/Reassembler.lean ====
section
/-! DEFINITION. Reassembler: the Multipart Reassembler and the expiry arbiter (spec 41_reassembler.md R130 to R152). -/

namespace Sys2Proof.Machine

/-- `RSM.KEY`, R132, R23: the sentinel key for an empty sequence id. -/
def rsmKey (seq : Bytes) : Key := if seq.isEmpty then ⟨false, []⟩ else ⟨true, seq⟩

/-- The entry that `RSM.CREATE(k, TOTAL, t)` makes, R134. -/
def newEntry (k : Key) (total : Nat) (t : Time) : Entry :=
  { key := k, total := total, parts := [], fill := 0, created := t }

/-- `RSM.STORE(e, PART, PAYLOAD)`, R136. -/
def storePart (e : Entry) (part : Nat) (payload : Bytes) : Entry := { e with parts := putPart e.parts part payload }

/-- `RSM.FILL(e, PART, FILL)`, R137: the entry's own total decides. -/
def storeFill (e : Entry) (part : Nat) (fill : Fin 8) : Entry := if part = e.total then { e with fill := fill } else e

/-- The test of `RSM.CHECK(e)`, R140: every index 1 to total is present. -/
def partsComplete (e : Entry) : Bool := (List.range e.total).all (fun i => (partAt e.parts (i + 1)).isSome)

/-- The fragment `e.parts[i]` that `RSM.JOIN` reads, R141: an index that is not present has no stated fragment, and what is read
there is free (log 14). -/
def fragmentAt (e : Entry) (i : Nat) : Bytes :=
  match partAt e.parts i with
  | some frag => frag
  | none => Config.missingFragment e i

/-- The payload of `RSM.JOIN(e)`, R141: the fragments in index order. -/
def joinParts (e : Entry) : Bytes := (List.range e.total).flatMap (fun i => fragmentAt e (i + 1))

/-- How the reassembler step ends, R142. -/
inductive RsmOut
  | buffered
  | drop (c : Cause)
  | joined (payload : Bytes) (fill : Fin 8)
  deriving DecidableEq, Repr

/-- `RSM.CHECK(e)` then `RSM.JOIN(e)` on the contents of a removed entry, R140, R141. -/
def rsmCheck (e : Entry) : RsmOut := if partsComplete e then .joined (joinParts e) e.fill else .drop .dropIncomplete

/-- `RSM.COMPLETE(e)`, R139: the table and the outcome. In `RSM` the entry is the one just stored into; presented alone it is any
entry of RT (DESIGN CHOICE, log 30). -/
def rsmComplete (rt : List Entry) (e : Entry) : List Entry × RsmOut :=
  if partCount e = e.total then (tableRemove rt e.key, rsmCheck e) else (rt, .buffered)

/-- `RSM`, R142, on the table: lookup, capacity, creation, storing, completion. -/
def rsmStep (cfg : Config.Params) (rt : List Entry) (seq : Bytes) (total part : Nat) (payload : Bytes) (fill : Fin 8) (t : Time) :
    List Entry × RsmOut :=
  let k := rsmKey seq
  let store := fun (e : Entry) =>
    let e' := storeFill (storePart e part payload) part fill
    rsmComplete (tablePut rt e') e'
  match tableGet rt k with
  | some e => store e
  | none => if cfg.nEntries ≤ rt.length then (rt, .drop .dropCapacity) else store (newEntry k total t)

/-- The tail after the check, R141, R142: the joined payload and its fill count go to DECODE_PAYLOAD, a drop is taken, or the
part is answered with BUFFERED (R139). -/
def rsmTail (s : State) (o : RsmOut) : State :=
  match o with
  | .buffered => s.withResp ⟨.none, .buffered, .nothing⟩
  | .drop c => s.abort c
  | .joined payload fill => decodePayloadInto (s.withTr { s.tr with payload := payload, fill := fill })

/-- `RSM`, R142, on the registers at sampled time `t`. R142 and R133 have `RSM.EXPIRE(t)` run before; presented alone, without it, an
entry of an age above EXPIRY_MS is found, stored into and counted towards the capacity as any other (DESIGN CHOICE, log 30). -/
def rsmInto (s : State) (t : Time) : State :=
  let r := rsmStep s.cfg s.rt s.tr.seq s.tr.total s.tr.part s.tr.payload s.tr.fill t
  rsmTail (s.withRt r.1) r.2

/-! ### Meanings -/

/-- R131: TOTAL is the register; a total of 1 goes to DECODE_PAYLOAD, any other to RSM. Presented alone with registers outside their
ranges, or without `RSM.EXPIRE(t)` before it, it runs in the same way (DESIGN CHOICE, log 30). -/
def execRsmBypass (t : Time) (s : State) : Host.Outcome State Fault Refusal :=
  .next (if s.tr.total = 1 then decodePayloadInto s else rsmInto s t)

/-- R132: SEQ is the register. -/
def execRsmKey (s : State) : Host.Outcome State Fault Refusal := .next (s.returns (.key (rsmKey s.tr.seq)))

/-- R133, on RT as it stands: presented alone, without `RSM.EXPIRE(t)` before it, an entry of an age above EXPIRY_MS is found too
(DESIGN CHOICE, log 30). -/
def execRsmLookup (k : Key) (s : State) : Host.Outcome State Fault Refusal := .next (s.returns (.entry (tableGet s.rt k)))

/-- R134: TOTAL is the register. The operand is a key with no entry; the capacity test of R135 comes first (log 14). R134 says that
TOTAL is at least 2 here; presented alone with a smaller TOTAL, the entry takes it all the same (DESIGN CHOICE, log 30). -/
def execRsmCreate (k : Key) (t : Time) (s : State) : Host.Outcome State Fault Refusal :=
  match tableGet s.rt k with
  | some _ => .fault .keyPresent
  | none =>
    if s.cfg.nEntries ≤ s.rt.length then .next (s.abort .dropCapacity)
    else
      let e := newEntry k s.tr.total t
      .next ((s.withRt (tablePut s.rt e)).returns (.entry (some e)))

/-- R136: PART and PAYLOAD are the registers; the entry is the one of key `k` (log 14). Presented alone with a PART outside
1..PARTS_MAX, it stores the fragment under that index (DESIGN CHOICE, log 30). -/
def execRsmStore (k : Key) (s : State) : Host.Outcome State Fault Refusal :=
  match tableGet s.rt k with
  | none => .fault .noEntry
  | some e => .next (s.withRt (tablePut s.rt (storePart e s.tr.part s.tr.payload)))

/-- R137: PART and FILL are the registers. A PART outside 1..PARTS_MAX is compared as any other (DESIGN CHOICE, log 30). -/
def execRsmFill (k : Key) (s : State) : Host.Outcome State Fault Refusal :=
  match tableGet s.rt k with
  | none => .fault .noEntry
  | some e => .next (s.withRt (tablePut s.rt (storeFill e s.tr.part s.tr.fill)))

/-- R138. -/
def execRsmCount (k : Key) (s : State) : Host.Outcome State Fault Refusal :=
  match tableGet s.rt k with
  | none => .fault .noEntry
  | some e => .next (s.returns (.nat (partCount e)))

/-- R139, with the tail it goes to; the entry is the one of key `k` (log 14). R139's operand is the entry just stored into; presented
alone, an entry that no sentence has just been stored into, as RSM.CREATE leaves it or as it waits for further parts, is tested and
removed or kept in the same way (DESIGN CHOICE, log 30). -/
def execRsmComplete (k : Key) (s : State) : Host.Outcome State Fault Refusal :=
  match tableGet s.rt k with
  | none => .fault .noEntry
  | some e => .next (rsmTail (s.withRt (rsmComplete s.rt e).1) (rsmComplete s.rt e).2)

/-- R140, with the tail it goes to: the operand is the contents of the entry just removed. An operand whose total or part indices
are outside the ranges of R22 runs in the same way (DESIGN CHOICE, log 30). -/
def execRsmCheck (e : Entry) (s : State) : Host.Outcome State Fault Refusal := .next (rsmTail s (rsmCheck e))

/-- R141: the operand is the contents of a removed entry; CHAN is the register. An operand whose total or part indices are outside
the ranges of R22 runs in the same way (DESIGN CHOICE, log 30). -/
def execRsmJoin (e : Entry) (s : State) : Host.Outcome State Fault Refusal :=
  .next (rsmTail s (.joined (joinParts e) e.fill))

/-- R142. Presented alone with a TOTAL below 2, or with another register outside its range (a PART outside 1..PARTS_MAX), it runs in
the same way (DESIGN CHOICE, log 30). -/
def execRsm (t : Time) (s : State) : Host.Outcome State Fault Refusal := .next (rsmInto s t)

/-- R143. -/
def execRsmExpire (t : Time) (s : State) : Host.Outcome State Fault Refusal := .next (s.withRt (expireTable s.rt t))

/-- R144: the number of evicted entries is returned. In the port this is also the autonomous arbiter's sweep (R147, R310;
log 11). -/
def execRsmSweep (t : Time) (s : State) : Host.Outcome State Fault Refusal :=
  .next ((s.withRt (sweepTable s.rt t)).returns (.nat (sweepCount s.rt t)))

end Sys2Proof.Machine
end

