-- ==== Sys2Proof/Machine/HostOps.lean ====
section
/-! DEFINITION. HostOps: the operations a host can ask for (spec 47_host_operations.md R300 to R306). -/

namespace Sys2Proof.Machine

/-- The attempt of DECODE, R302, on the table that RSM.EXPIRE has left: the table and the response. -/
def decodeAttempt (cfg : Config.Params) (rt : List Entry) (line : Bytes) (t : Time) : List Entry × Response :=
  match parseLine cfg line with
  | .error c => (rt, Response.ofCause c)
  | .ok p =>
    if p.total = 1 then (rt, payloadResponse p.payload p.fill p.chan)
    else
      let r := rsmStep cfg rt p.seq p.total p.part p.payload p.fill t
      match r.2 with
      | .buffered => (r.1, ⟨.none, .buffered, .nothing⟩)
      | .drop c => (r.1, Response.ofCause c)
      | .joined payload fill => (r.1, payloadResponse payload fill p.chan)

/-- An encode, R303, R304: the packed message goes to the emitter; a fault emits nothing and leaves RT alone (R340). -/
def encodeOperation (s : State) (packed : Except Cause Bits) (chan : Bytes) (d : SeqDraw) : State :=
  match packed with
  | .error c => s.abort c
  | .ok b =>
    match emtLines b chan d with
    | .error c => s.abort c
    | .ok lines => (s.withResp ⟨.lines, .ok, .lines lines⟩).finish

/-- The refusal of a reserved operation code, R306: the response alone (R335). -/
def refuseOperation (s : State) : State := s.withResp (Response.ofCause .illegalOp)

/-! ### Meanings -/

/-- NOP, R301. -/
def execNop (s : State) : Host.Outcome State Fault Refusal := .next (s.withResp ⟨.none, .ok, .nothing⟩)

/-- DECODE, R302: RSM.EXPIRE(t), the attempt, RSM.SWEEP(t), the response. -/
def execDecode (line : Bytes) (t : Time) (s : State) : Host.Outcome State Fault Refusal :=
  let a := decodeAttempt s.cfg (expireTable s.rt t) line t
  .next (((s.withRt (sweepTable a.1 t)).withResp a.2).finish)

/-- ENCPOS, R303. -/
def execEncpos (op : PosOperand) (d : SeqDraw) (s : State) : Host.Outcome State Fault Refusal :=
  .next (encodeOperation s (posEncode op) op.channel d)

/-- ENCSTAT, R304. -/
def execEncstat (op : StatOperand) (d : SeqDraw) (s : State) : Host.Outcome State Fault Refusal :=
  .next (encodeOperation s (statEncode op) op.channel d)

/-- SWEEP, R305. -/
def execSweep (t : Time) (s : State) : Host.Outcome State Fault Refusal :=
  .next (((s.withRt (sweepTable s.rt t)).withResp ⟨.none, .ok, .count (sweepCount s.rt t)⟩).finish)

/-- The reserved code 101, R306. -/
def execReserved101 (s : State) : Host.Outcome State Fault Refusal := .next (refuseOperation s)

/-- The reserved code 110, R306. -/
def execReserved110 (s : State) : Host.Outcome State Fault Refusal := .next (refuseOperation s)

/-- The reserved code 111, R306. -/
def execReserved111 (s : State) : Host.Outcome State Fault Refusal := .next (refuseOperation s)

end Sys2Proof.Machine
end

