-- ==== Sys2Proof/Machine/Responses.lean ====
section
/-! DEFINITION. Responses: the rows of the response kinds and causes (spec 30_encoding.md R86, 60_exceptions.md R322 to R335;
log 18). -/

namespace Sys2Proof.Machine

/-- KIND_NONE: no record, or not a decode. -/
def execKindNone (s : State) : Host.Outcome State Fault Refusal := .next (s.withResp ⟨.none, s.resp.cause, .nothing⟩)

/-- KIND_POS: the Position record is delivered and the cause stands. After a cause other than OK this leaves a pair that no operation
produces (U15; DESIGN CHOICE, log 18). -/
def execKindPos (s : State) : Host.Outcome State Fault Refusal := .next (s.withResp ⟨.pos, s.resp.cause, .pos s.tr.pos⟩)

/-- KIND_STAT: the Static record is delivered and the cause stands. After a cause other than OK this leaves a pair that no operation
produces (U15; DESIGN CHOICE, log 18). -/
def execKindStat (s : State) : Host.Outcome State Fault Refusal := .next (s.withResp ⟨.stat, s.resp.cause, .stat s.tr.stat⟩)

/-- KIND_LINES: the list of lines OUT is delivered and the cause stands. After a cause other than OK this leaves a pair that no operation
produces (U15; DESIGN CHOICE, log 18). -/
def execKindLines (s : State) : Host.Outcome State Fault Refusal := .next (s.withResp ⟨.lines, s.resp.cause, .lines s.tr.out⟩)

/-- CAUSE_OK: the operation yielded its result, whose kind and value stand. -/
def execCauseOk (s : State) : Host.Outcome State Fault Refusal := .next (s.withResp ⟨s.resp.kind, .ok, s.resp.value⟩)

/-- CAUSE_BUFFERED, R139: a part was stored, no record. -/
def execCauseBuffered (s : State) : Host.Outcome State Fault Refusal := .next (s.withResp ⟨.none, .buffered, .nothing⟩)

/-- CAUSE_DROP_GRAMMAR, R323: the drop is taken. -/
def execCauseDropGrammar (s : State) : Host.Outcome State Fault Refusal := .next (s.abort .dropGrammar)

/-- CAUSE_DROP_CHECKSUM, R324: the drop is taken. -/
def execCauseDropChecksum (s : State) : Host.Outcome State Fault Refusal := .next (s.abort .dropChecksum)

/-- CAUSE_DROP_SHORT, R325: the drop is taken. -/
def execCauseDropShort (s : State) : Host.Outcome State Fault Refusal := .next (s.abort .dropShort)

/-- CAUSE_DROP_TYPE, R326: the drop is taken. -/
def execCauseDropType (s : State) : Host.Outcome State Fault Refusal := .next (s.abort .dropType)

/-- CAUSE_DROP_INCOMPLETE, R327: the drop is taken. -/
def execCauseDropIncomplete (s : State) : Host.Outcome State Fault Refusal := .next (s.abort .dropIncomplete)

/-- CAUSE_DROP_LIMIT, R328: the drop is taken. -/
def execCauseDropLimit (s : State) : Host.Outcome State Fault Refusal := .next (s.abort .dropLimit)

/-- CAUSE_DROP_CAPACITY, R329: the drop is taken. -/
def execCauseDropCapacity (s : State) : Host.Outcome State Fault Refusal := .next (s.abort .dropCapacity)

/-- CAUSE_ENC_SIGNED_RANGE, R330: the fault is taken. -/
def execCauseEncSignedRange (s : State) : Host.Outcome State Fault Refusal := .next (s.abort .encSignedRange)

/-- CAUSE_ENC_UNSIGNED_RANGE, R331: the fault is taken. -/
def execCauseEncUnsignedRange (s : State) : Host.Outcome State Fault Refusal := .next (s.abort .encUnsignedRange)

/-- CAUSE_ENC_TYPE, R332: the fault is taken. -/
def execCauseEncType (s : State) : Host.Outcome State Fault Refusal := .next (s.abort .encType)

/-- CAUSE_ENC_CHANNEL, R333: the fault is taken. -/
def execCauseEncChannel (s : State) : Host.Outcome State Fault Refusal := .next (s.abort .encChannel)

/-- CAUSE_ENC_ARMOR_RANGE, R334: the fault is taken. -/
def execCauseEncArmorRange (s : State) : Host.Outcome State Fault Refusal := .next (s.abort .encArmorRange)

/-- CAUSE_ILLEGAL_OP, R335: the refusal of a reserved operation code. -/
def execCauseIllegalOp (s : State) : Host.Outcome State Fault Refusal := .next (refuseOperation s)

/-- CAUSE_RESERVED_15, R86, R322, U15: reserved, never produced, so there is nothing it could do (log 18). -/
def execCauseReserved15 (_ : State) : Host.Outcome State Fault Refusal := .refused .reservedCause

end Sys2Proof.Machine
end

