-- ==== Sys2Proof/Machine/TextChars.lean ====
section
/-! DEFINITION. TextChars: the 64 rows of the text alphabet (spec 30_encoding.md R80), each with the group value and the
character that the table of R80 gives it (log 15). -/

namespace Sys2Proof.Machine

/-- A row of the text alphabet: receiving, one turn of the loop of `FLD.GETT`, the group of value `v` appends its character to the
string under construction (R192); transmitting, one turn of `FLD.PUTT`, the character appends its group to BITS (R196). -/
def textGroup (v : Nat) (c : Byte) (d : Dir) (s : State) : State :=
  match d with
  | .rx => s.withTr { s.tr with acc := s.tr.acc ++ [c] }
  | .tx => s.withBits (s.tr.bits ++ bitsW 6 v)

def execTxtchr00 (d : Dir) (s : State) : Host.Outcome State Fault Refusal := .next (textGroup 0 0x40#8 d s)
def execTxtchr01 (d : Dir) (s : State) : Host.Outcome State Fault Refusal := .next (textGroup 1 0x41#8 d s)
def execTxtchr02 (d : Dir) (s : State) : Host.Outcome State Fault Refusal := .next (textGroup 2 0x42#8 d s)
def execTxtchr03 (d : Dir) (s : State) : Host.Outcome State Fault Refusal := .next (textGroup 3 0x43#8 d s)
def execTxtchr04 (d : Dir) (s : State) : Host.Outcome State Fault Refusal := .next (textGroup 4 0x44#8 d s)
def execTxtchr05 (d : Dir) (s : State) : Host.Outcome State Fault Refusal := .next (textGroup 5 0x45#8 d s)
def execTxtchr06 (d : Dir) (s : State) : Host.Outcome State Fault Refusal := .next (textGroup 6 0x46#8 d s)
def execTxtchr07 (d : Dir) (s : State) : Host.Outcome State Fault Refusal := .next (textGroup 7 0x47#8 d s)
def execTxtchr08 (d : Dir) (s : State) : Host.Outcome State Fault Refusal := .next (textGroup 8 0x48#8 d s)
def execTxtchr09 (d : Dir) (s : State) : Host.Outcome State Fault Refusal := .next (textGroup 9 0x49#8 d s)
def execTxtchr10 (d : Dir) (s : State) : Host.Outcome State Fault Refusal := .next (textGroup 10 0x4A#8 d s)
def execTxtchr11 (d : Dir) (s : State) : Host.Outcome State Fault Refusal := .next (textGroup 11 0x4B#8 d s)
def execTxtchr12 (d : Dir) (s : State) : Host.Outcome State Fault Refusal := .next (textGroup 12 0x4C#8 d s)
def execTxtchr13 (d : Dir) (s : State) : Host.Outcome State Fault Refusal := .next (textGroup 13 0x4D#8 d s)
def execTxtchr14 (d : Dir) (s : State) : Host.Outcome State Fault Refusal := .next (textGroup 14 0x4E#8 d s)
def execTxtchr15 (d : Dir) (s : State) : Host.Outcome State Fault Refusal := .next (textGroup 15 0x4F#8 d s)
def execTxtchr16 (d : Dir) (s : State) : Host.Outcome State Fault Refusal := .next (textGroup 16 0x50#8 d s)
def execTxtchr17 (d : Dir) (s : State) : Host.Outcome State Fault Refusal := .next (textGroup 17 0x51#8 d s)
def execTxtchr18 (d : Dir) (s : State) : Host.Outcome State Fault Refusal := .next (textGroup 18 0x52#8 d s)
def execTxtchr19 (d : Dir) (s : State) : Host.Outcome State Fault Refusal := .next (textGroup 19 0x53#8 d s)
def execTxtchr20 (d : Dir) (s : State) : Host.Outcome State Fault Refusal := .next (textGroup 20 0x54#8 d s)
def execTxtchr21 (d : Dir) (s : State) : Host.Outcome State Fault Refusal := .next (textGroup 21 0x55#8 d s)
def execTxtchr22 (d : Dir) (s : State) : Host.Outcome State Fault Refusal := .next (textGroup 22 0x56#8 d s)
def execTxtchr23 (d : Dir) (s : State) : Host.Outcome State Fault Refusal := .next (textGroup 23 0x57#8 d s)
def execTxtchr24 (d : Dir) (s : State) : Host.Outcome State Fault Refusal := .next (textGroup 24 0x58#8 d s)
def execTxtchr25 (d : Dir) (s : State) : Host.Outcome State Fault Refusal := .next (textGroup 25 0x59#8 d s)
def execTxtchr26 (d : Dir) (s : State) : Host.Outcome State Fault Refusal := .next (textGroup 26 0x5A#8 d s)
def execTxtchr27 (d : Dir) (s : State) : Host.Outcome State Fault Refusal := .next (textGroup 27 0x5B#8 d s)
def execTxtchr28 (d : Dir) (s : State) : Host.Outcome State Fault Refusal := .next (textGroup 28 0x5C#8 d s)
def execTxtchr29 (d : Dir) (s : State) : Host.Outcome State Fault Refusal := .next (textGroup 29 0x5D#8 d s)
def execTxtchr30 (d : Dir) (s : State) : Host.Outcome State Fault Refusal := .next (textGroup 30 0x5E#8 d s)
def execTxtchr31 (d : Dir) (s : State) : Host.Outcome State Fault Refusal := .next (textGroup 31 0x5F#8 d s)
def execTxtchr32 (d : Dir) (s : State) : Host.Outcome State Fault Refusal := .next (textGroup 32 0x20#8 d s)
def execTxtchr33 (d : Dir) (s : State) : Host.Outcome State Fault Refusal := .next (textGroup 33 0x21#8 d s)
def execTxtchr34 (d : Dir) (s : State) : Host.Outcome State Fault Refusal := .next (textGroup 34 0x22#8 d s)
def execTxtchr35 (d : Dir) (s : State) : Host.Outcome State Fault Refusal := .next (textGroup 35 0x23#8 d s)
def execTxtchr36 (d : Dir) (s : State) : Host.Outcome State Fault Refusal := .next (textGroup 36 0x24#8 d s)
def execTxtchr37 (d : Dir) (s : State) : Host.Outcome State Fault Refusal := .next (textGroup 37 0x25#8 d s)
def execTxtchr38 (d : Dir) (s : State) : Host.Outcome State Fault Refusal := .next (textGroup 38 0x26#8 d s)
def execTxtchr39 (d : Dir) (s : State) : Host.Outcome State Fault Refusal := .next (textGroup 39 0x27#8 d s)
def execTxtchr40 (d : Dir) (s : State) : Host.Outcome State Fault Refusal := .next (textGroup 40 0x28#8 d s)
def execTxtchr41 (d : Dir) (s : State) : Host.Outcome State Fault Refusal := .next (textGroup 41 0x29#8 d s)
def execTxtchr42 (d : Dir) (s : State) : Host.Outcome State Fault Refusal := .next (textGroup 42 0x2A#8 d s)
def execTxtchr43 (d : Dir) (s : State) : Host.Outcome State Fault Refusal := .next (textGroup 43 0x2B#8 d s)
def execTxtchr44 (d : Dir) (s : State) : Host.Outcome State Fault Refusal := .next (textGroup 44 0x2C#8 d s)
def execTxtchr45 (d : Dir) (s : State) : Host.Outcome State Fault Refusal := .next (textGroup 45 0x2D#8 d s)
def execTxtchr46 (d : Dir) (s : State) : Host.Outcome State Fault Refusal := .next (textGroup 46 0x2E#8 d s)
def execTxtchr47 (d : Dir) (s : State) : Host.Outcome State Fault Refusal := .next (textGroup 47 0x2F#8 d s)
def execTxtchr48 (d : Dir) (s : State) : Host.Outcome State Fault Refusal := .next (textGroup 48 0x30#8 d s)
def execTxtchr49 (d : Dir) (s : State) : Host.Outcome State Fault Refusal := .next (textGroup 49 0x31#8 d s)
def execTxtchr50 (d : Dir) (s : State) : Host.Outcome State Fault Refusal := .next (textGroup 50 0x32#8 d s)
def execTxtchr51 (d : Dir) (s : State) : Host.Outcome State Fault Refusal := .next (textGroup 51 0x33#8 d s)
def execTxtchr52 (d : Dir) (s : State) : Host.Outcome State Fault Refusal := .next (textGroup 52 0x34#8 d s)
def execTxtchr53 (d : Dir) (s : State) : Host.Outcome State Fault Refusal := .next (textGroup 53 0x35#8 d s)
def execTxtchr54 (d : Dir) (s : State) : Host.Outcome State Fault Refusal := .next (textGroup 54 0x36#8 d s)
def execTxtchr55 (d : Dir) (s : State) : Host.Outcome State Fault Refusal := .next (textGroup 55 0x37#8 d s)
def execTxtchr56 (d : Dir) (s : State) : Host.Outcome State Fault Refusal := .next (textGroup 56 0x38#8 d s)
def execTxtchr57 (d : Dir) (s : State) : Host.Outcome State Fault Refusal := .next (textGroup 57 0x39#8 d s)
def execTxtchr58 (d : Dir) (s : State) : Host.Outcome State Fault Refusal := .next (textGroup 58 0x3A#8 d s)
def execTxtchr59 (d : Dir) (s : State) : Host.Outcome State Fault Refusal := .next (textGroup 59 0x3B#8 d s)
def execTxtchr60 (d : Dir) (s : State) : Host.Outcome State Fault Refusal := .next (textGroup 60 0x3C#8 d s)
def execTxtchr61 (d : Dir) (s : State) : Host.Outcome State Fault Refusal := .next (textGroup 61 0x3D#8 d s)
def execTxtchr62 (d : Dir) (s : State) : Host.Outcome State Fault Refusal := .next (textGroup 62 0x3E#8 d s)
def execTxtchr63 (d : Dir) (s : State) : Host.Outcome State Fault Refusal := .next (textGroup 63 0x3F#8 d s)

end Sys2Proof.Machine
end

