-- ==== Sys2Proof/Machine/Dispatch.lean ====
section
/-! DEFINITION. Dispatch: one arm per constructor of Instr, each one call of its meaning. -/

namespace Sys2Proof.Machine

def exec (i : Instr) (s : State) : Host.Outcome State Fault Refusal :=
  match i with
  | .nop => Sys2Proof.Machine.execNop s
  | .decode line t => Sys2Proof.Machine.execDecode line t s
  | .encpos op d => Sys2Proof.Machine.execEncpos op d s
  | .encstat op d => Sys2Proof.Machine.execEncstat op d s
  | .sweep t => Sys2Proof.Machine.execSweep t s
  | .reserved101 => Sys2Proof.Machine.execReserved101 s
  | .reserved110 => Sys2Proof.Machine.execReserved110 s
  | .reserved111 => Sys2Proof.Machine.execReserved111 s
  | .aivdm rest => Sys2Proof.Machine.execAivdm rest s
  | .aivdo rest => Sys2Proof.Machine.execAivdo rest s
  | .msgtype0 u => Sys2Proof.Machine.execMsgtype0 u s
  | .msgtype1 u => Sys2Proof.Machine.execMsgtype1 u s
  | .msgtype2 u => Sys2Proof.Machine.execMsgtype2 u s
  | .msgtype3 u => Sys2Proof.Machine.execMsgtype3 u s
  | .msgtype4 u => Sys2Proof.Machine.execMsgtype4 u s
  | .msgtype5 u => Sys2Proof.Machine.execMsgtype5 u s
  | .msgtype6 u => Sys2Proof.Machine.execMsgtype6 u s
  | .msgtype7 u => Sys2Proof.Machine.execMsgtype7 u s
  | .msgtype8 u => Sys2Proof.Machine.execMsgtype8 u s
  | .msgtype9 u => Sys2Proof.Machine.execMsgtype9 u s
  | .msgtype10 u => Sys2Proof.Machine.execMsgtype10 u s
  | .msgtype11 u => Sys2Proof.Machine.execMsgtype11 u s
  | .msgtype12 u => Sys2Proof.Machine.execMsgtype12 u s
  | .msgtype13 u => Sys2Proof.Machine.execMsgtype13 u s
  | .msgtype14 u => Sys2Proof.Machine.execMsgtype14 u s
  | .msgtype15 u => Sys2Proof.Machine.execMsgtype15 u s
  | .msgtype16 u => Sys2Proof.Machine.execMsgtype16 u s
  | .msgtype17 u => Sys2Proof.Machine.execMsgtype17 u s
  | .msgtype18 u => Sys2Proof.Machine.execMsgtype18 u s
  | .msgtype19 u => Sys2Proof.Machine.execMsgtype19 u s
  | .msgtype20 u => Sys2Proof.Machine.execMsgtype20 u s
  | .msgtype21 u => Sys2Proof.Machine.execMsgtype21 u s
  | .msgtype22 u => Sys2Proof.Machine.execMsgtype22 u s
  | .msgtype23 u => Sys2Proof.Machine.execMsgtype23 u s
  | .msgtype24 u => Sys2Proof.Machine.execMsgtype24 u s
  | .msgtype25 u => Sys2Proof.Machine.execMsgtype25 u s
  | .msgtype26 u => Sys2Proof.Machine.execMsgtype26 u s
  | .msgtype27 u => Sys2Proof.Machine.execMsgtype27 u s
  | .msgtype28 u => Sys2Proof.Machine.execMsgtype28 u s
  | .msgtype29 u => Sys2Proof.Machine.execMsgtype29 u s
  | .msgtype30 u => Sys2Proof.Machine.execMsgtype30 u s
  | .msgtype31 u => Sys2Proof.Machine.execMsgtype31 u s
  | .msgtype32 u => Sys2Proof.Machine.execMsgtype32 u s
  | .msgtype33 u => Sys2Proof.Machine.execMsgtype33 u s
  | .msgtype34 u => Sys2Proof.Machine.execMsgtype34 u s
  | .msgtype35 u => Sys2Proof.Machine.execMsgtype35 u s
  | .msgtype36 u => Sys2Proof.Machine.execMsgtype36 u s
  | .msgtype37 u => Sys2Proof.Machine.execMsgtype37 u s
  | .msgtype38 u => Sys2Proof.Machine.execMsgtype38 u s
  | .msgtype39 u => Sys2Proof.Machine.execMsgtype39 u s
  | .msgtype40 u => Sys2Proof.Machine.execMsgtype40 u s
  | .msgtype41 u => Sys2Proof.Machine.execMsgtype41 u s
  | .msgtype42 u => Sys2Proof.Machine.execMsgtype42 u s
  | .msgtype43 u => Sys2Proof.Machine.execMsgtype43 u s
  | .msgtype44 u => Sys2Proof.Machine.execMsgtype44 u s
  | .msgtype45 u => Sys2Proof.Machine.execMsgtype45 u s
  | .msgtype46 u => Sys2Proof.Machine.execMsgtype46 u s
  | .msgtype47 u => Sys2Proof.Machine.execMsgtype47 u s
  | .msgtype48 u => Sys2Proof.Machine.execMsgtype48 u s
  | .msgtype49 u => Sys2Proof.Machine.execMsgtype49 u s
  | .msgtype50 u => Sys2Proof.Machine.execMsgtype50 u s
  | .msgtype51 u => Sys2Proof.Machine.execMsgtype51 u s
  | .msgtype52 u => Sys2Proof.Machine.execMsgtype52 u s
  | .msgtype53 u => Sys2Proof.Machine.execMsgtype53 u s
  | .msgtype54 u => Sys2Proof.Machine.execMsgtype54 u s
  | .msgtype55 u => Sys2Proof.Machine.execMsgtype55 u s
  | .msgtype56 u => Sys2Proof.Machine.execMsgtype56 u s
  | .msgtype57 u => Sys2Proof.Machine.execMsgtype57 u s
  | .msgtype58 u => Sys2Proof.Machine.execMsgtype58 u s
  | .msgtype59 u => Sys2Proof.Machine.execMsgtype59 u s
  | .msgtype60 u => Sys2Proof.Machine.execMsgtype60 u s
  | .msgtype61 u => Sys2Proof.Machine.execMsgtype61 u s
  | .msgtype62 u => Sys2Proof.Machine.execMsgtype62 u s
  | .msgtype63 u => Sys2Proof.Machine.execMsgtype63 u s
  | .armchr30 d => Sys2Proof.Machine.execArmchr30 d s
  | .armchr31 d => Sys2Proof.Machine.execArmchr31 d s
  | .armchr32 d => Sys2Proof.Machine.execArmchr32 d s
  | .armchr33 d => Sys2Proof.Machine.execArmchr33 d s
  | .armchr34 d => Sys2Proof.Machine.execArmchr34 d s
  | .armchr35 d => Sys2Proof.Machine.execArmchr35 d s
  | .armchr36 d => Sys2Proof.Machine.execArmchr36 d s
  | .armchr37 d => Sys2Proof.Machine.execArmchr37 d s
  | .armchr38 d => Sys2Proof.Machine.execArmchr38 d s
  | .armchr39 d => Sys2Proof.Machine.execArmchr39 d s
  | .armchr3A d => Sys2Proof.Machine.execArmchr3A d s
  | .armchr3B d => Sys2Proof.Machine.execArmchr3B d s
  | .armchr3C d => Sys2Proof.Machine.execArmchr3C d s
  | .armchr3D d => Sys2Proof.Machine.execArmchr3D d s
  | .armchr3E d => Sys2Proof.Machine.execArmchr3E d s
  | .armchr3F d => Sys2Proof.Machine.execArmchr3F d s
  | .armchr40 d => Sys2Proof.Machine.execArmchr40 d s
  | .armchr41 d => Sys2Proof.Machine.execArmchr41 d s
  | .armchr42 d => Sys2Proof.Machine.execArmchr42 d s
  | .armchr43 d => Sys2Proof.Machine.execArmchr43 d s
  | .armchr44 d => Sys2Proof.Machine.execArmchr44 d s
  | .armchr45 d => Sys2Proof.Machine.execArmchr45 d s
  | .armchr46 d => Sys2Proof.Machine.execArmchr46 d s
  | .armchr47 d => Sys2Proof.Machine.execArmchr47 d s
  | .armchr48 d => Sys2Proof.Machine.execArmchr48 d s
  | .armchr49 d => Sys2Proof.Machine.execArmchr49 d s
  | .armchr4A d => Sys2Proof.Machine.execArmchr4A d s
  | .armchr4B d => Sys2Proof.Machine.execArmchr4B d s
  | .armchr4C d => Sys2Proof.Machine.execArmchr4C d s
  | .armchr4D d => Sys2Proof.Machine.execArmchr4D d s
  | .armchr4E d => Sys2Proof.Machine.execArmchr4E d s
  | .armchr4F d => Sys2Proof.Machine.execArmchr4F d s
  | .armchr50 d => Sys2Proof.Machine.execArmchr50 d s
  | .armchr51 d => Sys2Proof.Machine.execArmchr51 d s
  | .armchr52 d => Sys2Proof.Machine.execArmchr52 d s
  | .armchr53 d => Sys2Proof.Machine.execArmchr53 d s
  | .armchr54 d => Sys2Proof.Machine.execArmchr54 d s
  | .armchr55 d => Sys2Proof.Machine.execArmchr55 d s
  | .armchr56 d => Sys2Proof.Machine.execArmchr56 d s
  | .armchr57 d => Sys2Proof.Machine.execArmchr57 d s
  | .armchr60 d => Sys2Proof.Machine.execArmchr60 d s
  | .armchr61 d => Sys2Proof.Machine.execArmchr61 d s
  | .armchr62 d => Sys2Proof.Machine.execArmchr62 d s
  | .armchr63 d => Sys2Proof.Machine.execArmchr63 d s
  | .armchr64 d => Sys2Proof.Machine.execArmchr64 d s
  | .armchr65 d => Sys2Proof.Machine.execArmchr65 d s
  | .armchr66 d => Sys2Proof.Machine.execArmchr66 d s
  | .armchr67 d => Sys2Proof.Machine.execArmchr67 d s
  | .armchr68 d => Sys2Proof.Machine.execArmchr68 d s
  | .armchr69 d => Sys2Proof.Machine.execArmchr69 d s
  | .armchr6A d => Sys2Proof.Machine.execArmchr6A d s
  | .armchr6B d => Sys2Proof.Machine.execArmchr6B d s
  | .armchr6C d => Sys2Proof.Machine.execArmchr6C d s
  | .armchr6D d => Sys2Proof.Machine.execArmchr6D d s
  | .armchr6E d => Sys2Proof.Machine.execArmchr6E d s
  | .armchr6F d => Sys2Proof.Machine.execArmchr6F d s
  | .armchr70 d => Sys2Proof.Machine.execArmchr70 d s
  | .armchr71 d => Sys2Proof.Machine.execArmchr71 d s
  | .armchr72 d => Sys2Proof.Machine.execArmchr72 d s
  | .armchr73 d => Sys2Proof.Machine.execArmchr73 d s
  | .armchr74 d => Sys2Proof.Machine.execArmchr74 d s
  | .armchr75 d => Sys2Proof.Machine.execArmchr75 d s
  | .armchr76 d => Sys2Proof.Machine.execArmchr76 d s
  | .armchr77 d => Sys2Proof.Machine.execArmchr77 d s
  | .txtchr00 d => Sys2Proof.Machine.execTxtchr00 d s
  | .txtchr01 d => Sys2Proof.Machine.execTxtchr01 d s
  | .txtchr02 d => Sys2Proof.Machine.execTxtchr02 d s
  | .txtchr03 d => Sys2Proof.Machine.execTxtchr03 d s
  | .txtchr04 d => Sys2Proof.Machine.execTxtchr04 d s
  | .txtchr05 d => Sys2Proof.Machine.execTxtchr05 d s
  | .txtchr06 d => Sys2Proof.Machine.execTxtchr06 d s
  | .txtchr07 d => Sys2Proof.Machine.execTxtchr07 d s
  | .txtchr08 d => Sys2Proof.Machine.execTxtchr08 d s
  | .txtchr09 d => Sys2Proof.Machine.execTxtchr09 d s
  | .txtchr10 d => Sys2Proof.Machine.execTxtchr10 d s
  | .txtchr11 d => Sys2Proof.Machine.execTxtchr11 d s
  | .txtchr12 d => Sys2Proof.Machine.execTxtchr12 d s
  | .txtchr13 d => Sys2Proof.Machine.execTxtchr13 d s
  | .txtchr14 d => Sys2Proof.Machine.execTxtchr14 d s
  | .txtchr15 d => Sys2Proof.Machine.execTxtchr15 d s
  | .txtchr16 d => Sys2Proof.Machine.execTxtchr16 d s
  | .txtchr17 d => Sys2Proof.Machine.execTxtchr17 d s
  | .txtchr18 d => Sys2Proof.Machine.execTxtchr18 d s
  | .txtchr19 d => Sys2Proof.Machine.execTxtchr19 d s
  | .txtchr20 d => Sys2Proof.Machine.execTxtchr20 d s
  | .txtchr21 d => Sys2Proof.Machine.execTxtchr21 d s
  | .txtchr22 d => Sys2Proof.Machine.execTxtchr22 d s
  | .txtchr23 d => Sys2Proof.Machine.execTxtchr23 d s
  | .txtchr24 d => Sys2Proof.Machine.execTxtchr24 d s
  | .txtchr25 d => Sys2Proof.Machine.execTxtchr25 d s
  | .txtchr26 d => Sys2Proof.Machine.execTxtchr26 d s
  | .txtchr27 d => Sys2Proof.Machine.execTxtchr27 d s
  | .txtchr28 d => Sys2Proof.Machine.execTxtchr28 d s
  | .txtchr29 d => Sys2Proof.Machine.execTxtchr29 d s
  | .txtchr30 d => Sys2Proof.Machine.execTxtchr30 d s
  | .txtchr31 d => Sys2Proof.Machine.execTxtchr31 d s
  | .txtchr32 d => Sys2Proof.Machine.execTxtchr32 d s
  | .txtchr33 d => Sys2Proof.Machine.execTxtchr33 d s
  | .txtchr34 d => Sys2Proof.Machine.execTxtchr34 d s
  | .txtchr35 d => Sys2Proof.Machine.execTxtchr35 d s
  | .txtchr36 d => Sys2Proof.Machine.execTxtchr36 d s
  | .txtchr37 d => Sys2Proof.Machine.execTxtchr37 d s
  | .txtchr38 d => Sys2Proof.Machine.execTxtchr38 d s
  | .txtchr39 d => Sys2Proof.Machine.execTxtchr39 d s
  | .txtchr40 d => Sys2Proof.Machine.execTxtchr40 d s
  | .txtchr41 d => Sys2Proof.Machine.execTxtchr41 d s
  | .txtchr42 d => Sys2Proof.Machine.execTxtchr42 d s
  | .txtchr43 d => Sys2Proof.Machine.execTxtchr43 d s
  | .txtchr44 d => Sys2Proof.Machine.execTxtchr44 d s
  | .txtchr45 d => Sys2Proof.Machine.execTxtchr45 d s
  | .txtchr46 d => Sys2Proof.Machine.execTxtchr46 d s
  | .txtchr47 d => Sys2Proof.Machine.execTxtchr47 d s
  | .txtchr48 d => Sys2Proof.Machine.execTxtchr48 d s
  | .txtchr49 d => Sys2Proof.Machine.execTxtchr49 d s
  | .txtchr50 d => Sys2Proof.Machine.execTxtchr50 d s
  | .txtchr51 d => Sys2Proof.Machine.execTxtchr51 d s
  | .txtchr52 d => Sys2Proof.Machine.execTxtchr52 d s
  | .txtchr53 d => Sys2Proof.Machine.execTxtchr53 d s
  | .txtchr54 d => Sys2Proof.Machine.execTxtchr54 d s
  | .txtchr55 d => Sys2Proof.Machine.execTxtchr55 d s
  | .txtchr56 d => Sys2Proof.Machine.execTxtchr56 d s
  | .txtchr57 d => Sys2Proof.Machine.execTxtchr57 d s
  | .txtchr58 d => Sys2Proof.Machine.execTxtchr58 d s
  | .txtchr59 d => Sys2Proof.Machine.execTxtchr59 d s
  | .txtchr60 d => Sys2Proof.Machine.execTxtchr60 d s
  | .txtchr61 d => Sys2Proof.Machine.execTxtchr61 d s
  | .txtchr62 d => Sys2Proof.Machine.execTxtchr62 d s
  | .txtchr63 d => Sys2Proof.Machine.execTxtchr63 d s
  | .kindNone => Sys2Proof.Machine.execKindNone s
  | .kindPos => Sys2Proof.Machine.execKindPos s
  | .kindStat => Sys2Proof.Machine.execKindStat s
  | .kindLines => Sys2Proof.Machine.execKindLines s
  | .causeOk => Sys2Proof.Machine.execCauseOk s
  | .causeBuffered => Sys2Proof.Machine.execCauseBuffered s
  | .causeDropGrammar => Sys2Proof.Machine.execCauseDropGrammar s
  | .causeDropChecksum => Sys2Proof.Machine.execCauseDropChecksum s
  | .causeDropShort => Sys2Proof.Machine.execCauseDropShort s
  | .causeDropType => Sys2Proof.Machine.execCauseDropType s
  | .causeDropIncomplete => Sys2Proof.Machine.execCauseDropIncomplete s
  | .causeDropLimit => Sys2Proof.Machine.execCauseDropLimit s
  | .causeDropCapacity => Sys2Proof.Machine.execCauseDropCapacity s
  | .causeEncSignedRange => Sys2Proof.Machine.execCauseEncSignedRange s
  | .causeEncUnsignedRange => Sys2Proof.Machine.execCauseEncUnsignedRange s
  | .causeEncType => Sys2Proof.Machine.execCauseEncType s
  | .causeEncChannel => Sys2Proof.Machine.execCauseEncChannel s
  | .causeEncArmorRange => Sys2Proof.Machine.execCauseEncArmorRange s
  | .causeIllegalOp => Sys2Proof.Machine.execCauseIllegalOp s
  | .causeReserved15 => Sys2Proof.Machine.execCauseReserved15 s
  | .chkXor body => Sys2Proof.Machine.execChkXor body s
  | .chkHex2 h l => Sys2Proof.Machine.execChkHex2 h l s
  | .chkVerify body => Sys2Proof.Machine.execChkVerify body s
  | .parseFrame => Sys2Proof.Machine.execParseFrame s
  | .parseSplit body => Sys2Proof.Machine.execParseSplit body s
  | .parseInt str => Sys2Proof.Machine.execParseInt str s
  | .parseTotal f => Sys2Proof.Machine.execParseTotal f s
  | .parsePart f => Sys2Proof.Machine.execParsePart f s
  | .parseSeq f => Sys2Proof.Machine.execParseSeq f s
  | .parseChan f => Sys2Proof.Machine.execParseChan f s
  | .parsePayload f => Sys2Proof.Machine.execParsePayload f s
  | .parseFill f => Sys2Proof.Machine.execParseFill f s
  | .parseCksum h l => Sys2Proof.Machine.execParseCksum h l s
  | .parse line => Sys2Proof.Machine.execParse line s
  | .rsmBypass t => Sys2Proof.Machine.execRsmBypass t s
  | .rsmKey => Sys2Proof.Machine.execRsmKey s
  | .rsmLookup k => Sys2Proof.Machine.execRsmLookup k s
  | .rsmCreate k t => Sys2Proof.Machine.execRsmCreate k t s
  | .rsmStore k => Sys2Proof.Machine.execRsmStore k s
  | .rsmFill k => Sys2Proof.Machine.execRsmFill k s
  | .rsmCount k => Sys2Proof.Machine.execRsmCount k s
  | .rsmComplete k => Sys2Proof.Machine.execRsmComplete k s
  | .rsmCheck e => Sys2Proof.Machine.execRsmCheck e s
  | .rsmJoin e => Sys2Proof.Machine.execRsmJoin e s
  | .rsm t => Sys2Proof.Machine.execRsm t s
  | .rsmExpire t => Sys2Proof.Machine.execRsmExpire t s
  | .rsmSweep t => Sys2Proof.Machine.execRsmSweep t s
  | .armDec6 c => Sys2Proof.Machine.execArmDec6 c s
  | .armUnpack => Sys2Proof.Machine.execArmUnpack s
  | .armStrip => Sys2Proof.Machine.execArmStrip s
  | .armDecode => Sys2Proof.Machine.execArmDecode s
  | .armPad6 => Sys2Proof.Machine.execArmPad6 s
  | .armEnc6 v => Sys2Proof.Machine.execArmEnc6 v s
  | .armPack => Sys2Proof.Machine.execArmPack s
  | .armEncode => Sys2Proof.Machine.execArmEncode s
  | .fldGetu o w => Sys2Proof.Machine.execFldGetu o w s
  | .fldGets o w => Sys2Proof.Machine.execFldGets o w s
  | .fldGett o n => Sys2Proof.Machine.execFldGett o n s
  | .fldPutu v w => Sys2Proof.Machine.execFldPutu v w s
  | .fldPuts v w => Sys2Proof.Machine.execFldPuts v w s
  | .fldPutt text n => Sys2Proof.Machine.execFldPutt text n s
  | .fldType => Sys2Proof.Machine.execFldType s
  | .posDecode => Sys2Proof.Machine.execPosDecode s
  | .posEncode op => Sys2Proof.Machine.execPosEncode op s
  | .statDecode => Sys2Proof.Machine.execStatDecode s
  | .statEncode op => Sys2Proof.Machine.execStatEncode op s
  | .emtPad => Sys2Proof.Machine.execEmtPad s
  | .emtChunk p => Sys2Proof.Machine.execEmtChunk p s
  | .emtFill n => Sys2Proof.Machine.execEmtFill n s
  | .emtSeq n d => Sys2Proof.Machine.execEmtSeq n d s
  | .emtChan c => Sys2Proof.Machine.execEmtChan c s
  | .emtLine n idx seqId ch chunk f => Sys2Proof.Machine.execEmtLine n idx seqId ch chunk f s
  | .emtCksum body => Sys2Proof.Machine.execEmtCksum body s
  | .emt c d => Sys2Proof.Machine.execEmt c d s
  | .decodePayload => Sys2Proof.Machine.execDecodePayload s

end Sys2Proof.Machine
end

