-- ==== Sys2Proof/Machine/Step.lean ====
section
/-! DEFINITION. Step: the machine takes the first command of its port, decodes it and runs it; with nothing presented it idles
and keeps its state (spec 47_host_operations.md R300, 60_exceptions.md R345; log 1). -/

namespace Sys2Proof.Machine

/-- One step. The command taken leaves the port before the instruction runs. -/
def step (s : State) : Host.Outcome State Fault Refusal :=
  match s.port with
  | [] => .next s
  | c :: rest =>
    match decode s.cfg c with
    | .error e => .refused (.undecodable e)
    | .ok i => exec i (s.withPort rest)

/-- The state with a table word presented as the next command (log 1, log 3). -/
def State.withFetchWord (s : State) (nbits w : Nat) : State := s.withPort (tableCommand nbits w :: s.port)

end Sys2Proof.Machine
end

