-- ==== Sys2Proof/Safety.lean ====
section
/-! DEFINITION. Safety: the terms in which claims are stated: the rows of the opcode table by name, the host operations, what a
good table is (spec 10_state.md R21, R23, R27), valid operands (44_position_report.md R228, 45_static_voyage_report.md R263) and
what a round trip gives back (R231, R266), the grammar of a sentence (40_parser_checksum.md R117), runs of a list of
instructions, and monotone time (47_host_operations.md R311). Nothing here is part of the machine. -/

namespace Sys2Proof.Machine

/-! ### The rows of the table by name -/

/-- The payload alphabet as the table of R79 prints it: byte, value, row. -/
def armorInstrs : List (Byte × Nat × (Dir → Instr)) :=
  [(0x30#8, 0, Instr.armchr30), (0x31#8, 1, Instr.armchr31), (0x32#8, 2, Instr.armchr32), (0x33#8, 3, Instr.armchr33),
   (0x34#8, 4, Instr.armchr34), (0x35#8, 5, Instr.armchr35), (0x36#8, 6, Instr.armchr36), (0x37#8, 7, Instr.armchr37),
   (0x38#8, 8, Instr.armchr38), (0x39#8, 9, Instr.armchr39), (0x3A#8, 10, Instr.armchr3A), (0x3B#8, 11, Instr.armchr3B),
   (0x3C#8, 12, Instr.armchr3C), (0x3D#8, 13, Instr.armchr3D), (0x3E#8, 14, Instr.armchr3E), (0x3F#8, 15, Instr.armchr3F)] ++
  [(0x40#8, 16, Instr.armchr40), (0x41#8, 17, Instr.armchr41), (0x42#8, 18, Instr.armchr42), (0x43#8, 19, Instr.armchr43),
   (0x44#8, 20, Instr.armchr44), (0x45#8, 21, Instr.armchr45), (0x46#8, 22, Instr.armchr46), (0x47#8, 23, Instr.armchr47),
   (0x48#8, 24, Instr.armchr48), (0x49#8, 25, Instr.armchr49), (0x4A#8, 26, Instr.armchr4A), (0x4B#8, 27, Instr.armchr4B),
   (0x4C#8, 28, Instr.armchr4C), (0x4D#8, 29, Instr.armchr4D), (0x4E#8, 30, Instr.armchr4E), (0x4F#8, 31, Instr.armchr4F)] ++
  [(0x50#8, 32, Instr.armchr50), (0x51#8, 33, Instr.armchr51), (0x52#8, 34, Instr.armchr52), (0x53#8, 35, Instr.armchr53),
   (0x54#8, 36, Instr.armchr54), (0x55#8, 37, Instr.armchr55), (0x56#8, 38, Instr.armchr56), (0x57#8, 39, Instr.armchr57),
   (0x60#8, 40, Instr.armchr60), (0x61#8, 41, Instr.armchr61), (0x62#8, 42, Instr.armchr62), (0x63#8, 43, Instr.armchr63),
   (0x64#8, 44, Instr.armchr64), (0x65#8, 45, Instr.armchr65), (0x66#8, 46, Instr.armchr66), (0x67#8, 47, Instr.armchr67)] ++
  [(0x68#8, 48, Instr.armchr68), (0x69#8, 49, Instr.armchr69), (0x6A#8, 50, Instr.armchr6A), (0x6B#8, 51, Instr.armchr6B),
   (0x6C#8, 52, Instr.armchr6C), (0x6D#8, 53, Instr.armchr6D), (0x6E#8, 54, Instr.armchr6E), (0x6F#8, 55, Instr.armchr6F),
   (0x70#8, 56, Instr.armchr70), (0x71#8, 57, Instr.armchr71), (0x72#8, 58, Instr.armchr72), (0x73#8, 59, Instr.armchr73),
   (0x74#8, 60, Instr.armchr74), (0x75#8, 61, Instr.armchr75), (0x76#8, 62, Instr.armchr76), (0x77#8, 63, Instr.armchr77)]

/-- The text alphabet as the table of R80 prints it: group value, character, row. -/
def textInstrs : List (Nat × Byte × (Dir → Instr)) :=
  [(0, 0x40#8, Instr.txtchr00), (1, 0x41#8, Instr.txtchr01), (2, 0x42#8, Instr.txtchr02), (3, 0x43#8, Instr.txtchr03),
   (4, 0x44#8, Instr.txtchr04), (5, 0x45#8, Instr.txtchr05), (6, 0x46#8, Instr.txtchr06), (7, 0x47#8, Instr.txtchr07),
   (8, 0x48#8, Instr.txtchr08), (9, 0x49#8, Instr.txtchr09), (10, 0x4A#8, Instr.txtchr10), (11, 0x4B#8, Instr.txtchr11),
   (12, 0x4C#8, Instr.txtchr12), (13, 0x4D#8, Instr.txtchr13), (14, 0x4E#8, Instr.txtchr14), (15, 0x4F#8, Instr.txtchr15)] ++
  [(16, 0x50#8, Instr.txtchr16), (17, 0x51#8, Instr.txtchr17), (18, 0x52#8, Instr.txtchr18), (19, 0x53#8, Instr.txtchr19),
   (20, 0x54#8, Instr.txtchr20), (21, 0x55#8, Instr.txtchr21), (22, 0x56#8, Instr.txtchr22), (23, 0x57#8, Instr.txtchr23),
   (24, 0x58#8, Instr.txtchr24), (25, 0x59#8, Instr.txtchr25), (26, 0x5A#8, Instr.txtchr26), (27, 0x5B#8, Instr.txtchr27),
   (28, 0x5C#8, Instr.txtchr28), (29, 0x5D#8, Instr.txtchr29), (30, 0x5E#8, Instr.txtchr30), (31, 0x5F#8, Instr.txtchr31)] ++
  [(32, 0x20#8, Instr.txtchr32), (33, 0x21#8, Instr.txtchr33), (34, 0x22#8, Instr.txtchr34), (35, 0x23#8, Instr.txtchr35),
   (36, 0x24#8, Instr.txtchr36), (37, 0x25#8, Instr.txtchr37), (38, 0x26#8, Instr.txtchr38), (39, 0x27#8, Instr.txtchr39),
   (40, 0x28#8, Instr.txtchr40), (41, 0x29#8, Instr.txtchr41), (42, 0x2A#8, Instr.txtchr42), (43, 0x2B#8, Instr.txtchr43),
   (44, 0x2C#8, Instr.txtchr44), (45, 0x2D#8, Instr.txtchr45), (46, 0x2E#8, Instr.txtchr46), (47, 0x2F#8, Instr.txtchr47)] ++
  [(48, 0x30#8, Instr.txtchr48), (49, 0x31#8, Instr.txtchr49), (50, 0x32#8, Instr.txtchr50), (51, 0x33#8, Instr.txtchr51),
   (52, 0x34#8, Instr.txtchr52), (53, 0x35#8, Instr.txtchr53), (54, 0x36#8, Instr.txtchr54), (55, 0x37#8, Instr.txtchr55),
   (56, 0x38#8, Instr.txtchr56), (57, 0x39#8, Instr.txtchr57), (58, 0x3A#8, Instr.txtchr58), (59, 0x3B#8, Instr.txtchr59),
   (60, 0x3C#8, Instr.txtchr60), (61, 0x3D#8, Instr.txtchr61), (62, 0x3E#8, Instr.txtchr62), (63, 0x3F#8, Instr.txtchr63)]

/-- The message types but 5, R81. -/
def posTypeInstrs : List (Nat × (PosUse → Instr)) :=
  [(0, Instr.msgtype0), (1, Instr.msgtype1), (2, Instr.msgtype2), (3, Instr.msgtype3), (4, Instr.msgtype4),
   (6, Instr.msgtype6), (7, Instr.msgtype7), (8, Instr.msgtype8), (9, Instr.msgtype9), (10, Instr.msgtype10),
   (11, Instr.msgtype11), (12, Instr.msgtype12), (13, Instr.msgtype13), (14, Instr.msgtype14), (15, Instr.msgtype15),
   (16, Instr.msgtype16)] ++
  [(17, Instr.msgtype17), (18, Instr.msgtype18), (19, Instr.msgtype19), (20, Instr.msgtype20), (21, Instr.msgtype21),
   (22, Instr.msgtype22), (23, Instr.msgtype23), (24, Instr.msgtype24), (25, Instr.msgtype25), (26, Instr.msgtype26),
   (27, Instr.msgtype27), (28, Instr.msgtype28), (29, Instr.msgtype29), (30, Instr.msgtype30), (31, Instr.msgtype31),
   (32, Instr.msgtype32)] ++
  [(33, Instr.msgtype33), (34, Instr.msgtype34), (35, Instr.msgtype35), (36, Instr.msgtype36), (37, Instr.msgtype37),
   (38, Instr.msgtype38), (39, Instr.msgtype39), (40, Instr.msgtype40), (41, Instr.msgtype41), (42, Instr.msgtype42),
   (43, Instr.msgtype43), (44, Instr.msgtype44), (45, Instr.msgtype45), (46, Instr.msgtype46), (47, Instr.msgtype47),
   (48, Instr.msgtype48)] ++
  [(49, Instr.msgtype49), (50, Instr.msgtype50), (51, Instr.msgtype51), (52, Instr.msgtype52), (53, Instr.msgtype53),
   (54, Instr.msgtype54), (55, Instr.msgtype55), (56, Instr.msgtype56), (57, Instr.msgtype57), (58, Instr.msgtype58),
   (59, Instr.msgtype59), (60, Instr.msgtype60), (61, Instr.msgtype61), (62, Instr.msgtype62), (63, Instr.msgtype63)]

/-- The rows of causes 2 to 13, the drops and the faults, each with its cause (R86, R322). -/
def abortInstrs : List (Instr × Cause) :=
  [(Instr.causeDropGrammar, .dropGrammar), (Instr.causeDropChecksum, .dropChecksum), (Instr.causeDropShort, .dropShort),
   (Instr.causeDropType, .dropType), (Instr.causeDropIncomplete, .dropIncomplete), (Instr.causeDropLimit, .dropLimit),
   (Instr.causeDropCapacity, .dropCapacity), (Instr.causeEncSignedRange, .encSignedRange),
   (Instr.causeEncUnsignedRange, .encUnsignedRange), (Instr.causeEncType, .encType), (Instr.causeEncChannel, .encChannel),
   (Instr.causeEncArmorRange, .encArmorRange)]

/-- The operations of the host, R85, R300: they and the arbiter's sweep are what a run of the CORE is made of (R312). -/
def isHostOp : Instr → Bool
  | .nop | .decode _ _ | .encpos _ _ | .encstat _ _ | .sweep _ | .reserved101 | .reserved110 | .reserved111 => true
  | _ => false

/-- The autonomous arbiter's step, R147, R310 (log 11). -/
def isArbiter : Instr → Bool
  | .rsmSweep _ => true
  | _ => false

/-- The time an instruction of a run samples, R36. -/
def sampledTime : Instr → Option Time
  | .decode _ t | .sweep t | .rsmSweep t => some t
  | _ => none

/-- R311 (a): the sampled times do not decrease. -/
def timesRising (is : List Instr) : Prop := (is.filterMap sampledTime).Pairwise (fun a b => a ≤ b)

/-- A run of a list of instructions; none if one of them stops. -/
def runAll : List Instr → State → Option State
  | [], s => some s
  | i :: is, s =>
    match exec i s with
    | .next s' => runAll is s'
    | _ => none

/-- The instruction answers with the drop, fault or refusal `c` and saves nothing: RT, the parameters and the port are as they were
(R321, R339, R340). Nothing is said of the transient registers, which hold no defined value afterwards (R20). -/
def endsWith (s : State) (c : Cause) (o : Host.Outcome State Fault Refusal) : Prop :=
  ∃ u, o = .next u ∧ u.resp = ⟨.none, c, .nothing⟩ ∧ u.rt = s.rt ∧ u.cfg = s.cfg ∧ u.port = s.port

/-- The operations whose response is a record, a list of lines, a drop, a fault or a refusal: the host operations but SWEEP,
whose count is a diagnostic (R305). -/
def delivers : Instr → Bool
  | .sweep _ => false
  | i => isHostOp i

/-- The responses of the delivering operations of a run, in order (R312). -/
def responsesOf : List Instr → State → List Response
  | [], _ => []
  | i :: is, s =>
    match exec i s with
    | .next t => if delivers i then t.resp :: responsesOf is t else responsesOf is t
    | _ => []

/-- `e` after a sentence with this part, payload and fill count has been stored into it (R136, R137): the last write wins, the fill
count is taken from the part whose index is the entry's own total, key, total and creation time stay. -/
def afterPart (e : Entry) (part : Nat) (payload : Bytes) (fill : Fin 8) : Entry :=
  { key := e.key
    total := e.total
    parts := putPart e.parts part payload
    fill := if part = e.total then fill else e.fill
    created := e.created }

/-- Every index 1 to total is present, R140. -/
def wholeEntry (e : Entry) : Prop := ∀ i, 1 ≤ i → i ≤ e.total → partAt e.parts i ≠ none

/-- The fragments in index order, R141. -/
def joinedEntry (e : Entry) : Bytes := ((List.range e.total).map (fun i => (partAt e.parts (i + 1)).getD [])).flatten

/-! ### Good tables -/

/-- R21, R23 and the canonical form (log 10): at most N_ENTRIES entries, no two with one key, every key a key. It holds in every state
that steps reach from one in which it holds, whatever the port holds. -/
def tableInv (cfg : Config.Params) (rt : List Entry) : Prop :=
  tableWf rt = true ∧ (∀ e ∈ rt, e.key.wf = true) ∧ rt.length ≤ cfg.nEntries

/-- R27 for one entry, with the alphabet of its fragments (R22, R110). -/
def entryBetween (cfg : Config.Params) (e : Entry) : Prop :=
  (1 ≤ partCount e ∧ partCount e < e.total) ∧ (2 ≤ e.total ∧ e.total ≤ cfg.partsMax) ∧
    (∀ p ∈ e.parts, 1 ≤ p.1 ∧ p.1 ≤ cfg.partsMax) ∧ ∀ p ∈ e.parts, ∀ c ∈ p.2, isArmor c = true

/-- What holds of RT between two operations, R27. -/
def tableBetween (cfg : Config.Params) (rt : List Entry) : Prop := tableInv cfg rt ∧ ∀ e ∈ rt, entryBetween cfg e

/-- R22, R26: every creation time is a number of W_TIME bits. -/
def timesFit (cfg : Config.Params) (rt : List Entry) : Prop := ∀ e ∈ rt, e.created < 2 ^ cfg.wTime

/-! ### Valid operands, and what a round trip gives back -/

/-- `v` fits an unsigned field of `w` bits, R194. -/
def fitsU (v : Int) (w : Nat) : Bool := decide (0 ≤ v ∧ v < 2 ^ w)

/-- `v` fits a signed field of `w` bits, R195. -/
def fitsS (v : Int) (w : Nat) : Bool := decide (-(2 ^ (w - 1)) ≤ v ∧ v < 2 ^ (w - 1))

/-- The checks of `POS.ENCODE` in the order of R228, each with the fault it raises. -/
def posChecks (op : PosOperand) : List (Bool × Cause) :=
  [(decide (op.msgType = 1 ∨ op.msgType = 2 ∨ op.msgType = 3), .encType),
   (fitsU op.repeatInd 2, .encUnsignedRange),
   (fitsU op.mmsi 30, .encUnsignedRange),
   (fitsU op.navStatus 4, .encUnsignedRange),
   (!op.rot.present || fitsS op.rot.value 8, .encSignedRange),
   (!op.sog.present || fitsU op.sog.value 10, .encUnsignedRange),
   (fitsU op.posAcc 1, .encUnsignedRange),
   (!op.lon.present || fitsS op.lon.value 28, .encSignedRange),
   (!op.lat.present || fitsS op.lat.value 27, .encSignedRange),
   (!op.cog.present || fitsU op.cog.value 12, .encUnsignedRange),
   (!op.heading.present || fitsU op.heading.value 9, .encUnsignedRange),
   (!op.utcSec.present || fitsU op.utcSec.value 6, .encUnsignedRange),
   (fitsU op.maneuver 2, .encUnsignedRange),
   (fitsU op.raim 1, .encUnsignedRange),
   (fitsU op.radio 19, .encUnsignedRange)]

/-- The checks of `STAT.ENCODE` in the order of R263. -/
def statChecks (op : StatOperand) : List (Bool × Cause) :=
  [(fitsU op.repeatInd 2, .encUnsignedRange),
   (fitsU op.mmsi 30, .encUnsignedRange),
   (fitsU op.aisVersion 2, .encUnsignedRange),
   (fitsU op.imo 30, .encUnsignedRange),
   (fitsU op.shipType 8, .encUnsignedRange),
   (fitsU op.toBow 9, .encUnsignedRange),
   (fitsU op.toStern 9, .encUnsignedRange),
   (fitsU op.toPort 6, .encUnsignedRange),
   (fitsU op.toStarboard 6, .encUnsignedRange),
   (fitsU op.epfd 4, .encUnsignedRange),
   (!op.etaMonth.present || fitsU op.etaMonth.value 4, .encUnsignedRange),
   (!op.etaDay.present || fitsU op.etaDay.value 5, .encUnsignedRange),
   (!op.etaHour.present || fitsU op.etaHour.value 5, .encUnsignedRange),
   (!op.etaMinute.present || fitsU op.etaMinute.value 6, .encUnsignedRange),
   (fitsU op.draught 8, .encUnsignedRange)]

/-- The check of the channel, which comes after the packing (R284). -/
def chanCheck (c : Bytes) : Bool × Cause := (decide (c = [0x41#8] ∨ c = [0x42#8]), .encChannel)

/-- The fault an encode raises: that of the first check that fails (R228, R263, R338). -/
def firstFailure : List (Bool × Cause) → Option Cause
  | [] => none
  | (ok, c) :: rest => if ok then firstFailure rest else some c

/-- The value of a register with a presence bit, the sentinel `d` standing for an absent one (R199). -/
def filled (r : OptReg) (d : Int) : Int := if r.present = true then r.value else d

/-- `r'` of R231: the Position record that a round trip of the operand gives back, with the sentinels of R199. -/
def posRoundTrip (op : PosOperand) (ch : Byte) : PosRecord where
  msgType := BitVec.ofInt 6 op.msgType
  repeatInd := BitVec.ofInt 2 op.repeatInd
  mmsi := BitVec.ofInt 30 op.mmsi
  navStatus := BitVec.ofInt 4 op.navStatus
  rot := BitVec.ofInt 8 (filled op.rot (-128))
  sog := BitVec.ofInt 10 (filled op.sog 1023)
  posAcc := BitVec.ofInt 1 op.posAcc
  lon := BitVec.ofInt 28 (filled op.lon 108600000)
  lat := BitVec.ofInt 27 (filled op.lat 54600000)
  cog := BitVec.ofInt 12 (filled op.cog 3600)
  heading := BitVec.ofInt 9 (filled op.heading 511)
  utcSec := BitVec.ofInt 6 (filled op.utcSec 60)
  maneuver := BitVec.ofInt 2 op.maneuver
  raim := BitVec.ofInt 1 op.raim
  radio := BitVec.ofInt 19 op.radio
  channel := ch

/-- A text as a round trip gives it back, R266: bytes outside the text table become `'@'`, the first `n` bytes stay, the result is
trimmed as R193 says. -/
def textBack (text : Bytes) (n : Nat) : Bytes :=
  trimText ((text.map (fun c => if 0x20 ≤ c.toNat ∧ c.toNat ≤ 0x5F then c else 0x40#8)).take n)

/-- `r'` of R266: the Static record that a round trip of the operand gives back. -/
def statRoundTrip (op : StatOperand) (ch : Byte) : StatRecord where
  msgType := 5
  repeatInd := BitVec.ofInt 2 op.repeatInd
  mmsi := BitVec.ofInt 30 op.mmsi
  aisVersion := BitVec.ofInt 2 op.aisVersion
  imo := BitVec.ofInt 30 op.imo
  callsign := textBack op.callsign 7
  name := textBack op.name 20
  shipType := BitVec.ofInt 8 op.shipType
  toBow := BitVec.ofInt 9 op.toBow
  toStern := BitVec.ofInt 9 op.toStern
  toPort := BitVec.ofInt 6 op.toPort
  toStarboard := BitVec.ofInt 6 op.toStarboard
  epfd := BitVec.ofInt 4 op.epfd
  etaMonth := BitVec.ofInt 4 (filled op.etaMonth 0)
  etaDay := BitVec.ofInt 5 (filled op.etaDay 0)
  etaHour := BitVec.ofInt 5 (filled op.etaHour 24)
  etaMinute := BitVec.ofInt 6 (filled op.etaMinute 60)
  draught := BitVec.ofInt 8 op.draught
  destination := textBack op.destination 20
  dteAvailable := op.dteAvailable
  channel := ch

/-- `text` is what R192 and R193 read in `n` groups of `b` from offset `o`: the characters of the groups, by the table of R80,
trimmed. -/
def spellsText (b : Bits) (o n : Nat) (text : Bytes) : Prop :=
  ∃ raw : Bytes, raw.length = n ∧
    (∀ i c, raw[i]? = some c →
      c.toNat = (if uint ((b.drop (o + 6 * i)).take 6) < 32 then uint ((b.drop (o + 6 * i)).take 6) + 64
        else uint ((b.drop (o + 6 * i)).take 6))) ∧
    text = trimText raw

/-- A number as a present register of an encode operand. -/
def presentReg (v : Int) : OptReg := ⟨true, v⟩

/-- A decoded Position record as an encode operand with every presence bit 1 (R230, R231). -/
def posOperandOf (r : PosRecord) : PosOperand where
  msgType := r.msgType.toNat
  repeatInd := r.repeatInd.toNat
  mmsi := r.mmsi.toNat
  navStatus := r.navStatus.toNat
  rot := presentReg r.rot.toInt
  sog := presentReg r.sog.toNat
  posAcc := r.posAcc.toNat
  lon := presentReg r.lon.toInt
  lat := presentReg r.lat.toInt
  cog := presentReg r.cog.toNat
  heading := presentReg r.heading.toNat
  utcSec := presentReg r.utcSec.toNat
  maneuver := r.maneuver.toNat
  raim := r.raim.toNat
  radio := r.radio.toNat
  channel := [r.channel]

/-! ### The grammar of a sentence -/

/-- The nine groups of the expression of R117, in order. -/
structure Groups where
  tag : Bytes
  total : Bytes
  part : Bytes
  seq : Bytes
  chan : Byte
  payload : Bytes
  fill : Bytes
  h : Byte
  l : Byte
  deriving DecidableEq, Repr

/-- A decimal digit. -/
def isDecimal (c : Byte) : Bool := decide (0x30 ≤ c.toNat ∧ c.toNat ≤ 0x39)

/-- The number a string of decimal digits spells (R105). -/
def decimalValue (str : Bytes) : Nat := str.foldl (fun v c => 10 * v + (c.toNat - 0x30)) 0

/-- The string is the decimal numeral of `n`, with no sign and no leading zeros (R285). -/
def isNumeral (str : Bytes) (n : Nat) : Prop :=
  str ≠ [] ∧ str.all isDecimal = true ∧ decimalValue str = n ∧ (str.head? = some 0x30#8 → str = [0x30#8])

/-- The bytes between the `'!'` and the `'*'` of a sentence made of the groups (R71). -/
def Groups.body (g : Groups) : Bytes :=
  g.tag ++ [0x2C#8] ++ g.total ++ [0x2C#8] ++ g.part ++ [0x2C#8] ++ g.seq ++ [0x2C#8] ++ [g.chan] ++ [0x2C#8] ++ g.payload
    ++ [0x2C#8] ++ g.fill

/-- The sentence made of the groups. -/
def Groups.line (g : Groups) : Bytes := [0x21#8] ++ g.body ++ [0x2A#8, g.h, g.l]

/-- The groups match the expression of R117 with its conditions on the numbers. -/
def Groups.ok (g : Groups) : Prop :=
  (g.tag = [0x41#8, 0x49#8, 0x56#8, 0x44#8, 0x4D#8] ∨ g.tag = [0x41#8, 0x49#8, 0x56#8, 0x44#8, 0x4F#8]) ∧
  (g.total ≠ [] ∧ g.total.all isDecimal = true ∧ 1 ≤ decimalValue g.total) ∧
  (g.part ≠ [] ∧ g.part.all isDecimal = true ∧ 1 ≤ decimalValue g.part) ∧
  (∀ c ∈ g.seq, (0x20 ≤ c.toNat ∧ c.toNat ≤ 0x29) ∨ c.toNat = 0x2B ∨ (0x2D ≤ c.toNat ∧ c.toNat ≤ 0x7E)) ∧
  (g.chan = 0x41#8 ∨ g.chan = 0x42#8) ∧
  (∀ c ∈ g.payload, (0x30 ≤ c.toNat ∧ c.toNat ≤ 0x57) ∨ (0x60 ≤ c.toNat ∧ c.toNat ≤ 0x77)) ∧
  (g.fill ≠ [] ∧ g.fill.all isDecimal = true ∧ decimalValue g.fill ≤ 7) ∧
  (hexVal g.h ≠ none ∧ hexVal g.l ≠ none)

/-- The checksum the two digits spell, R101. -/
def Groups.checksum (g : Groups) : Nat := 16 * (hexVal g.h).getD 0 + (hexVal g.l).getD 0

/-- The checksum a body has, bit by bit: bit `i` is the parity of the bytes whose bit `i` is set (R100). -/
def parityBit (body : Bytes) (i : Nat) : Bool := decide ((body.filter (fun c => c.getLsbD i)).length % 2 = 1)

/-- The parse registers that a sentence of these groups leaves (R28). -/
def Groups.registers (g : Groups) (tr : Transients) (line : Bytes) (fill : Fin 8) : Transients :=
  { tr with
    line := line
    tag := if g.tag = [0x41#8, 0x49#8, 0x56#8, 0x44#8, 0x4D#8] then 0 else 1
    total := decimalValue g.total
    part := decimalValue g.part
    seq := g.seq
    chan := g.chan
    payload := g.payload
    fill := fill
    cksum := BitVec.ofNat 8 g.checksum }

end Sys2Proof.Machine
end

