-- ==== Sys2Proof/Certificates/Slice0/Obligations.lean ====
section
/-! DEFINITION. The statements of this row, for the provers. Each docstring names the rule of spec/ it formalises, or says what is
the model's own choice. -/

section
open Sys2Proof Sys2Proof.Machine

/-! ### The step, the decoder and the encoder -/

/-- The port (the model's own, log 1): a step runs exactly the instruction that the first command decodes to, with that command
taken; an empty port idles; a command that does not decode is refused. -/
def Obligations.StepRunsDecodedCommand : Prop :=
  ∀ s : State,
    (∀ c rest i, s.port = c :: rest → decode s.cfg c = .ok i → WellFormed s.cfg i = true ∧ step s = exec i (s.withPort rest)) ∧
    (s.port = [] → step s = .next s) ∧
    (∀ c rest e, s.port = c :: rest → decode s.cfg c = .error e → step s = .refused (.undecodable e))

/-- Codes written out from the opcode table, one or more of each format (R72, R79, R80, R81, R85, R86), decode to the instruction
they stand for, and so do two words of the table. The operands beside the codes are the model's choice, log 2; that a
micro-operation is selected by its name, log 4; and for the two words the operands of zeros and the order in which the formats
of a shared 8-bit word are tried, log 3. -/
def Obligations.TableCodesDecode : Prop :=
  decode Config.Params.default ⟨.cmd 0b001#3, [.str [0x21#8], .time 1]⟩ = .ok (.decode [0x21#8] 1) ∧
  decode Config.Params.default ⟨.cmd 0b110#3, []⟩ = .ok .reserved110 ∧
  decode Config.Params.default ⟨.sentence 0x21414956444F#48, [.str []]⟩ = .ok (.aivdo []) ∧
  decode Config.Params.default ⟨.msg 0b000101#6, [.bits []]⟩ = .ok (.msgtype5 (.rx [])) ∧
  decode Config.Params.default ⟨.armor 0x77#8, [.dir .tx]⟩ = .ok (.armchr77 .tx) ∧
  decode Config.Params.default ⟨.text 0b100000#6, [.dir .rx]⟩ = .ok (.txtchr32 .rx) ∧
  decode Config.Params.default ⟨.kind 0b10#2, []⟩ = .ok .kindStat ∧
  decode Config.Params.default ⟨.cause 0b1101#4, []⟩ = .ok .causeEncArmorRange ∧
  decode Config.Params.default ⟨.micro .rsmCount, [.key []]⟩ = .ok (.rsmCount ⟨false, []⟩) ∧
  decode Config.Params.default ⟨.armor 0x58#8, [.dir .rx]⟩ = .error .noSuchCode ∧
  decodeTableWord 8 0b100 = some (.sweep 0) ∧
  decodeTableWord 8 0x6D = some (.armchr6D .rx)

/-- Decode and encode agree: on a machine with any parameters, every well-formed instruction, with every operand, is read back
from its command. -/
def Obligations.DecodeReadsEncodedInstruction : Prop :=
  ∀ (p : Config.Params) (i : Instr), WellFormed p i = true → decode p (encode i) = .ok i

/-- The other direction: no two commands decode to one instruction, so every code of the table has one meaning. -/
def Obligations.EncodeRestoresDecodedCommand : Prop :=
  ∀ (p : Config.Params) (c : Command) (i : Instr), decode p c = .ok i → encode i = c

/-! ### Reset and invariants -/

/-- R43: after reset RT is empty, OCC is 0 and every key is absent. -/
def Obligations.ResetLeavesTableEmpty : Prop :=
  State.reset.rt = [] ∧ State.reset.occ = 0 ∧ ∀ k, tableGet State.reset.rt k = none

/-- What holds of RT between operations (R27) holds right after reset. -/
def Obligations.ResetTableIsGood : Prop := tableBetween State.reset.cfg State.reset.rt

/-- R21, R23: whatever the port holds, a step keeps the table within its capacity, with at most one entry for a key, every key a
key; and R22: it keeps every creation time a number of W_TIME bits. That the table stands in the canonical form, which tableInv
holds too, is the model's representation, log 10. -/
def Obligations.EveryStepKeepsTableInvariant : Prop :=
  ∀ s t : State, step s = .next t →
    (tableInv s.cfg s.rt → tableInv t.cfg t.rt) ∧ (timesFit s.cfg s.rt → timesFit t.cfg t.rt)

/-- R41: no instruction writes the parameters: every step that answers a next state leaves them as they were. That they stand in
State is the model's choice, log 9. -/
def Obligations.EveryStepKeepsParameters : Prop := ∀ s t : State, step s = .next t → t.cfg = s.cfg

/-- R27: every host operation, and every sweep of the autonomous arbiter, keeps what the spec says of RT between operations. That
the arbiter's sweep is the instruction RSM.SWEEP is the model's choice, log 11, and so is the canonical form that tableBetween
holds too, log 10. -/
def Obligations.OperationsKeepEntriesIncomplete : Prop :=
  ∀ (i : Instr) (s t : State), (isHostOp i = true ∨ isArbiter i = true) → tableBetween s.cfg s.rt → exec i s = .next t →
    tableBetween t.cfg t.rt

/-- R20: every host operation answers a next state, and neither its response nor the table it leaves depends on any transient
register or on the previous response. -/
def Obligations.OperationsIgnoreTransients : Prop :=
  ∀ (i : Instr) (s : State) (tr : Transients) (r : Response), isHostOp i = true →
    ∃ u v, exec i s = .next u ∧ exec i ((s.withTr tr).withResp r) = .next v ∧ u.rt = v.rt ∧ u.resp = v.resp

/-! ### NOP, the reserved codes, SWEEP -/

/-- R301: NOP answers (NONE, OK) and changes nothing else: no time is sampled and no entry is evicted. That the transient registers
keep their values too is the model's choice, log 28. -/
def Obligations.NopOnlyAnswersOk : Prop := ∀ s : State, exec .nop s = .next { s with resp := ⟨.none, .ok, .nothing⟩ }

/-- R306: the three reserved operation codes answer (NONE, ILLEGAL_OP) and change nothing else. That the transient registers keep
their values too is the model's choice, log 28. -/
def Obligations.ReservedCodesOnlyAnswerIllegal : Prop :=
  ∀ s : State, ∀ i ∈ [Instr.reserved101, Instr.reserved110, Instr.reserved111],
    exec i s = .next { s with resp := ⟨.none, .illegalOp, .nothing⟩ }

/-- R305: SWEEP evicts the entries of age at least 30,000 ms, keeps the others as they are, and counts the evicted ones; a second
SWEEP at the same time counts none. -/
def Obligations.SweepEvictsAndCounts : Prop :=
  ∀ (s : State) (t : Time), ∃ u,
    exec (.sweep t) s = .next u ∧
    u.rt = s.rt.filter (fun e => decide (age e t < 30000)) ∧
    u.resp = ⟨.none, .ok, .count (s.rt.filter (fun e => decide (30000 ≤ age e t))).length⟩ ∧
    u.cfg = s.cfg ∧ u.port = s.port ∧
    (s.rt = [] → u.resp = ⟨.none, .ok, .count 0⟩) ∧
    ∃ v, exec (.sweep t) u = .next v ∧ v.rt = u.rt ∧ v.resp = ⟨.none, .ok, .count 0⟩

/-- R145: the age is a saturating difference, and storing a part changes neither `created` nor any age. -/
def Obligations.AgeSaturatesAndStoringKeepsIt : Prop :=
  ∀ (e : Entry) (t : Time),
    (e.created ≤ t → age e t = t - e.created) ∧
    (t < e.created → age e t = 0) ∧
    ∀ part payload fill, (storeFill (storePart e part payload) part fill).created = e.created ∧
      age (storeFill (storePart e part payload) part fill) t = age e t

/-! ### DECODE -/

/-- R302: DECODE is the sequence RSM.EXPIRE, PARSE, then for an admitted sentence RSM.BYPASS (to DECODE_PAYLOAD or to RSM), then
RSM.SWEEP; its response is the one the sequence leaves. That a micro-operation is an instruction of its own is the model's choice,
log 4. -/
def Obligations.DecodeIsItsMicroOperations : Prop :=
  ∀ (s : State) (line : Bytes) (t : Time), ∃ d s1 s2,
    exec (.decode line t) s = .next d ∧ d.cfg = s.cfg ∧ d.port = s.port ∧
    exec (.rsmExpire t) s = .next s1 ∧ exec (.parse line) s1 = .next s2 ∧
    (∀ c, parseLine s.cfg line = .error c →
      ∃ s3, exec (.rsmSweep t) s2 = .next s3 ∧ d.rt = s3.rt ∧ d.resp = s3.resp ∧ d.resp = ⟨.none, c, .nothing⟩) ∧
    (∀ p, parseLine s.cfg line = .ok p →
      ∃ s3 s4, exec (.rsmBypass t) s2 = .next s3 ∧ exec (.rsmSweep t) s3 = .next s4 ∧ d.rt = s4.rt ∧ d.resp = s4.resp)

/-- R115, R339: a sentence that PARSE drops yields no record and no fault, leaves the table exactly as a SWEEP at the same time
would, and every later host operation, the next one and any that follows further operations, answers as after that SWEEP and
leaves the same table. -/
def Obligations.DroppedSentenceOnlyLetsTimeAct : Prop :=
  ∀ (s : State) (line : Bytes) (t : Time) (c : Cause), parseLine s.cfg line = .error c →
    ∃ u v, exec (.decode line t) s = .next u ∧ exec (.sweep t) s = .next v ∧
      u.resp = ⟨.none, c, .nothing⟩ ∧ (c = .dropGrammar ∨ c = .dropLimit ∨ c = .dropChecksum) ∧ u.rt = v.rt ∧
      ∀ (before : List Instr) (i : Instr), (∀ j ∈ before, isHostOp j = true) → isHostOp i = true →
        ∃ u' v' u'' v'', runAll before u = some u' ∧ runAll before v = some v' ∧
          exec i u' = .next u'' ∧ exec i v' = .next v'' ∧ u''.resp = v''.resp ∧ u''.rt = v''.rt

/-- R102: changing any one byte of the body of an admitted sentence makes DECODE produce no record, and leaves the table as time
alone would. -/
def Obligations.ChangedBodyByteYieldsNoRecord : Prop :=
  ∀ (s : State) (line : Bytes) (t : Time) (p : Parsed) (i : Nat) (b : Byte),
    parseLine s.cfg line = .ok p → 1 ≤ i → i + 3 < line.length → line.getD i 0 ≠ b →
      ∃ u c, exec (.decode (line.set i b) t) s = .next u ∧ u.resp = ⟨.none, c, .nothing⟩ ∧
        (c = .dropGrammar ∨ c = .dropLimit ∨ c = .dropChecksum) ∧
        u.rt = s.rt.filter (fun e => decide (age e t < 30000)) ∧ u.cfg = s.cfg ∧ u.port = s.port

/-! ### The parser and the checksum -/

/-- R113, R117: a sentence that matches the grammar, is within the limits and carries its own checksum is admitted, and the parse
registers (R28) take the groups' values; nothing else changes. -/
def Obligations.ParseAdmitsTheGrammar : Prop :=
  ∀ (s : State) (g : Groups) (fill : Fin 8), g.ok → g.line.length ≤ s.cfg.sentMax → decimalValue g.total ≤ s.cfg.partsMax →
    decimalValue g.part ≤ s.cfg.partsMax → fill.val = decimalValue g.fill →
    (∀ i, i < 8 → (BitVec.ofNat 8 g.checksum).getLsbD i = parityBit g.body i) →
      exec (.parse g.line) s = .next (s.withTr (g.registers s.tr g.line fill))

/-- R113, R117: a string within SENT_MAX that does not match the grammar is dropped for grammar or for a limit, never admitted and
never for its checksum. -/
def Obligations.ParseDropsWhatIsNotTheGrammar : Prop :=
  ∀ (s : State) (line : Bytes), line.length ≤ s.cfg.sentMax → (¬ ∃ g : Groups, g.ok ∧ g.line = line) →
    endsWith s .dropGrammar (exec (.parse line) s) ∨ endsWith s .dropLimit (exec (.parse line) s)

/-- R106, R107, R114, R116: the order of the verdicts: a string longer than SENT_MAX is dropped for that whatever it holds; a
sentence of the grammar with a total or part above PARTS_MAX is dropped for that whatever its checksum; and a sentence of the
grammar within the limits whose checksum is not its own is dropped for the checksum. -/
def Obligations.ParseOrdersItsVerdicts : Prop :=
  ∀ s : State,
    (∀ line, s.cfg.sentMax < line.length → endsWith s .dropLimit (exec (.parse line) s)) ∧
    (∀ g : Groups, g.ok → g.line.length ≤ s.cfg.sentMax →
      (s.cfg.partsMax < decimalValue g.total ∨ s.cfg.partsMax < decimalValue g.part) →
        endsWith s .dropLimit (exec (.parse g.line) s)) ∧
    (∀ g : Groups, g.ok → g.line.length ≤ s.cfg.sentMax → decimalValue g.total ≤ s.cfg.partsMax →
      decimalValue g.part ≤ s.cfg.partsMax →
      (∃ i, i < 8 ∧ (BitVec.ofNat 8 g.checksum).getLsbD i ≠ parityBit g.body i) →
        endsWith s .dropChecksum (exec (.parse g.line) s))

/-- R100, R101, R102: CHK.XOR, CHK.HEX2 and CHK.VERIFY. Where the value goes (RET) is the model's choice, log 5. -/
def Obligations.ChecksumOperations : Prop :=
  ∀ s : State,
    (∀ body, ∃ c : Byte, exec (.chkXor body) s = .next (s.withTr { s.tr with ret := .byte c }) ∧
      ∀ i, i < 8 → c.getLsbD i = parityBit body i) ∧
    (∀ h l a b, hexVal h = some a → hexVal l = some b →
      exec (.chkHex2 h l) s = .next (s.withTr { s.tr with ret := .byte (BitVec.ofNat 8 (16 * a + b)) })) ∧
    (∀ h l, (hexVal h = none ∨ hexVal l = none) → exec (.chkHex2 h l) s = .next (s.withTr { s.tr with ret := .nothing })) ∧
    (∀ body, (∀ i, i < 8 → s.tr.cksum.getLsbD i = parityBit body i) →
      exec (.chkVerify body) s = .next (s.withTr { s.tr with ret := .truth true })) ∧
    (∀ body, (∃ i, i < 8 ∧ s.tr.cksum.getLsbD i ≠ parityBit body i) →
      endsWith s .dropChecksum (exec (.chkVerify body) s))

/-- R103, R104: PARSE.FRAME gives the body and the two last bytes of a string that starts with `'!'` and has a `'*'` third from its
end, when the body between the two is free of `'*'` (as R103's pseudocode has it, the two last bytes are any, a `'*'` among them:
PARSE.CKSUM tests them); PARSE.SPLIT gives the seven fields of a body with six commas and writes TAG; any other string or body is
dropped. Where the values go (RET) is the model's choice, log 5; that PARSE.FRAME takes also a LINE longer than SENT_MAX, and
PARSE.SPLIT a body with a `'*'`, are the model's choices, log 30. -/
def Obligations.FrameAndSplit : Prop :=
  ∀ s : State,
    (∀ body h l, 0x2A#8 ∉ body → s.tr.line = [0x21#8] ++ body ++ [0x2A#8, h, l] →
      exec .parseFrame s = .next (s.withTr { s.tr with ret := .frame body h l })) ∧
    ((¬ ∃ body h l, 0x2A#8 ∉ body ∧ s.tr.line = [0x21#8] ++ body ++ [0x2A#8, h, l]) →
      endsWith s .dropGrammar (exec .parseFrame s)) ∧
    (∀ f0 f1 f2 f3 f4 f5 f6 : Bytes, (∀ f ∈ [f0, f1, f2, f3, f4, f5, f6], 0x2C#8 ∉ f) →
      (f0 = aivdmBytes →
        exec (.parseSplit ([0x2C#8].intercalate [f0, f1, f2, f3, f4, f5, f6])) s =
          .next (s.withTr { s.tr with ret := .strs [f0, f1, f2, f3, f4, f5, f6], tag := 0 })) ∧
      (f0 = aivdoBytes →
        exec (.parseSplit ([0x2C#8].intercalate [f0, f1, f2, f3, f4, f5, f6])) s =
          .next (s.withTr { s.tr with ret := .strs [f0, f1, f2, f3, f4, f5, f6], tag := 1 })) ∧
      (f0 ≠ aivdmBytes → f0 ≠ aivdoBytes →
        endsWith s .dropGrammar (exec (.parseSplit ([0x2C#8].intercalate [f0, f1, f2, f3, f4, f5, f6])) s))) ∧
    (∀ body, (body.filter (fun c => c == 0x2C#8)).length ≠ 6 → endsWith s .dropGrammar (exec (.parseSplit body) s))

/-- R105 to R112: each field of a sentence: the value it must have and the register it is written to, or the drop. Where
PARSE.INT's value goes (RET) is the model's choice, log 5, and so is that PARSE.SEQ takes also a comma or a star,
and each of them a string longer than a sentence can hold, log 30. -/
def Obligations.SentenceFieldOperations : Prop :=
  ∀ (s : State) (f : Bytes),
    (f ≠ [] → f.all isDecimal = true → exec (.parseInt f) s = .next (s.withTr { s.tr with ret := .nat (decimalValue f) })) ∧
    (f = [] ∨ f.all isDecimal = false → exec (.parseInt f) s = .next (s.withTr { s.tr with ret := .nothing })) ∧
    (f ≠ [] → f.all isDecimal = true → 1 ≤ decimalValue f → decimalValue f ≤ s.cfg.partsMax →
      exec (.parseTotal f) s = .next (s.withTr { s.tr with total := decimalValue f }) ∧
      exec (.parsePart f) s = .next (s.withTr { s.tr with part := decimalValue f })) ∧
    (f ≠ [] → f.all isDecimal = true → 1 ≤ decimalValue f → s.cfg.partsMax < decimalValue f →
      endsWith s .dropLimit (exec (.parseTotal f) s) ∧ endsWith s .dropLimit (exec (.parsePart f) s)) ∧
    (f = [] ∨ f.all isDecimal = false ∨ decimalValue f = 0 →
      endsWith s .dropGrammar (exec (.parseTotal f) s) ∧ endsWith s .dropGrammar (exec (.parsePart f) s)) ∧
    ((∀ c ∈ f, 0x20 ≤ c.toNat ∧ c.toNat ≤ 0x7E) → exec (.parseSeq f) s = .next (s.withTr { s.tr with seq := f })) ∧
    ((∃ c ∈ f, c.toNat < 0x20 ∨ 0x7E < c.toNat) → endsWith s .dropGrammar (exec (.parseSeq f) s)) ∧
    (∀ ch : Byte, ch = 0x41#8 ∨ ch = 0x42#8 → f = [ch] → exec (.parseChan f) s = .next (s.withTr { s.tr with chan := ch })) ∧
    (f ≠ [0x41#8] → f ≠ [0x42#8] → endsWith s .dropGrammar (exec (.parseChan f) s)) ∧
    ((∀ c ∈ f, (0x30 ≤ c.toNat ∧ c.toNat ≤ 0x57) ∨ (0x60 ≤ c.toNat ∧ c.toNat ≤ 0x77)) →
      exec (.parsePayload f) s = .next (s.withTr { s.tr with payload := f })) ∧
    ((∃ c ∈ f, ¬ ((0x30 ≤ c.toNat ∧ c.toNat ≤ 0x57) ∨ (0x60 ≤ c.toNat ∧ c.toNat ≤ 0x77))) →
      endsWith s .dropGrammar (exec (.parsePayload f) s)) ∧
    (∀ n : Fin 8, f ≠ [] → f.all isDecimal = true → decimalValue f = n.val →
      exec (.parseFill f) s = .next (s.withTr { s.tr with fill := n })) ∧
    (f = [] ∨ f.all isDecimal = false ∨ 7 < decimalValue f → endsWith s .dropGrammar (exec (.parseFill f) s)) ∧
    (∀ h l a b, hexVal h = some a → hexVal l = some b →
      exec (.parseCksum h l) s = .next (s.withTr { s.tr with cksum := BitVec.ofNat 8 (16 * a + b) })) ∧
    (∀ h l, hexVal h = none ∨ hexVal l = none → endsWith s .dropGrammar (exec (.parseCksum h l) s))

/-! ### The reassembler -/

/-- R131: a total of 1 goes to DECODE_PAYLOAD, reads neither PART nor SEQ and touches no entry; any other total goes to RSM. That
RSM.BYPASS and RSM run also with a TOTAL of 0, and on a table that still holds expired entries, is the model's choice, log 30; that
DECODE_PAYLOAD runs also on a PAYLOAD with bytes outside the alphabet, log 12. -/
def Obligations.BypassGoesByTotal : Prop :=
  ∀ (s : State) (t : Time),
    (s.tr.total = 1 →
      (∃ u, exec .decodePayload s = .next u ∧ exec (.rsmBypass t) s = .next u ∧ u.rt = s.rt ∧
        ∀ part seq, ∃ v, exec (.rsmBypass t) (s.withTr { s.tr with part := part, seq := seq }) = .next v ∧
          v.resp = u.resp ∧ v.rt = s.rt)) ∧
    (s.tr.total ≠ 1 → ∃ u, exec (.rsm t) s = .next u ∧ exec (.rsmBypass t) s = .next u)

/-- R132, R133, R134, R135: RSM.KEY, RSM.LOOKUP and RSM.CREATE, with every other key untouched. Where the values go (RET), and that
RSM.CREATE itself makes the capacity test and stops on a key that is present, are the model's choices, log 5 and log 14; that the
test drops for every table of at least N_ENTRIES entries, where R135 has exactly N_ENTRIES, is deduced, log 21 (the two agree under
tableInv); that RSM.CREATE creates its entry also with a TOTAL below 2 or above PARTS_MAX, and that RSM.LOOKUP and RSM.CREATE act on
RT as it stands, expired entries among the others, are the model's choices, log 30. -/
def Obligations.KeyLookupCreate : Prop :=
  ∀ s : State,
    exec .rsmKey s = .next (s.withTr { s.tr with ret := .key (if s.tr.seq = [] then ⟨false, []⟩ else ⟨true, s.tr.seq⟩) }) ∧
    (∀ k, exec (.rsmLookup k) s = .next (s.withTr { s.tr with ret := .entry (tableGet s.rt k) })) ∧
    (∀ k e, tableGet s.rt k = some e → e.key = k ∧ e ∈ s.rt) ∧
    (∀ k, tableGet s.rt k = none → ∀ e ∈ s.rt, e.key ≠ k) ∧
    (∀ k t, tableGet s.rt k = none → s.rt.length < s.cfg.nEntries →
      ∃ u, exec (.rsmCreate k t) s = .next u ∧
        tableGet u.rt k = some { key := k, total := s.tr.total, parts := [], fill := 0, created := t } ∧
        (∀ j, j ≠ k → tableGet u.rt j = tableGet s.rt j) ∧ u.rt.length = s.rt.length + 1 ∧
        u.tr = { s.tr with ret := .entry (some { key := k, total := s.tr.total, parts := [], fill := 0, created := t }) } ∧
        u.resp = s.resp ∧ u.cfg = s.cfg ∧ u.port = s.port) ∧
    (∀ k t, tableGet s.rt k = none → s.cfg.nEntries ≤ s.rt.length → endsWith s .dropCapacity (exec (.rsmCreate k t) s)) ∧
    (∀ k t e, tableGet s.rt k = some e → exec (.rsmCreate k t) s = .fault .keyPresent)

/-- R136, R137, R138: RSM.STORE (last write wins), RSM.FILL (only for the index equal to the entry's own total) and RSM.COUNT, with
every other key, part and field untouched. Where the count goes (RET), and the stop on a key with no entry, are the model's choices,
log 5 and log 14; that a PART outside 1..PARTS_MAX is stored and compared as any other, and that an expired entry is stored into
as any other, are the model's choices, log 30. -/
def Obligations.StoreFillCount : Prop :=
  ∀ (s : State) (k : Key),
    (∀ e, tableGet s.rt k = some e →
      (∃ u e', exec (.rsmStore k) s = .next u ∧ tableGet u.rt k = some e' ∧
        e'.key = e.key ∧ e'.total = e.total ∧ e'.fill = e.fill ∧ e'.created = e.created ∧
        partAt e'.parts s.tr.part = some s.tr.payload ∧ (∀ i, i ≠ s.tr.part → partAt e'.parts i = partAt e.parts i) ∧
        (∀ j, j ≠ k → tableGet u.rt j = tableGet s.rt j) ∧
        u.tr = s.tr ∧ u.resp = s.resp ∧ u.cfg = s.cfg ∧ u.port = s.port) ∧
      (∃ u, exec (.rsmFill k) s = .next u ∧
        tableGet u.rt k = some { e with fill := if s.tr.part = e.total then s.tr.fill else e.fill } ∧
        (∀ j, j ≠ k → tableGet u.rt j = tableGet s.rt j) ∧
        u.tr = s.tr ∧ u.resp = s.resp ∧ u.cfg = s.cfg ∧ u.port = s.port) ∧
      exec (.rsmCount k) s = .next (s.withTr { s.tr with ret := .nat e.parts.length }) ∧
      (tableInv s.cfg s.rt → e.parts.Pairwise (fun a b => a.1 ≠ b.1))) ∧
    (tableGet s.rt k = none → exec (.rsmStore k) s = .fault .noEntry ∧ exec (.rsmFill k) s = .fault .noEntry ∧
      exec (.rsmCount k) s = .fault .noEntry)

/-- R139, R140, R141: RSM.COMPLETE answers BUFFERED and keeps the entry while the count differs from the total; otherwise it
removes the entry and goes to RSM.CHECK, which goes to RSM.JOIN when every index is present and drops otherwise; RSM.JOIN gives the
fragments in index order and the entry's fill count to DECODE_PAYLOAD. The stop on a key with no entry is the model's choice, log 14;
that RSM.CHECK and RSM.JOIN run also on an entry operand whose total or part indices are outside the ranges of R22 (a total of 0
joins to the empty payload), or that lists an index twice, and that RSM.COMPLETE acts on an expired entry, and on an entry that no
sentence has just been stored into, as on any other, are the model's choices, log 30. -/
def Obligations.CompleteCheckJoin : Prop :=
  ∀ s : State,
    (∀ k e, tableGet s.rt k = some e →
      (e.parts.length ≠ e.total → exec (.rsmComplete k) s = .next (s.withResp ⟨.none, .buffered, .nothing⟩)) ∧
      (e.parts.length = e.total →
        ∃ u, exec (.rsmComplete k) s = .next u ∧ exec (.rsmCheck e) (s.withRt (s.rt.filter (fun x => decide (x.key ≠ k)))) = .next u ∧
          tableGet u.rt k = none ∧ ∀ j, j ≠ k → tableGet u.rt j = tableGet s.rt j)) ∧
    (∀ k, tableGet s.rt k = none → exec (.rsmComplete k) s = .fault .noEntry) ∧
    (∀ e, wholeEntry e → ∃ u, exec (.rsmCheck e) s = .next u ∧ exec (.rsmJoin e) s = .next u) ∧
    (∀ e, ¬ wholeEntry e → endsWith s .dropIncomplete (exec (.rsmCheck e) s)) ∧
    (∀ e, wholeEntry e →
      ∃ u, exec (.rsmJoin e) s = .next u ∧
        exec .decodePayload (s.withTr { s.tr with payload := joinedEntry e, fill := e.fill }) = .next u ∧ u.rt = s.rt)

/-- R142: RSM is the sequence of its micro-operations, each run as an instruction of its own on the key that RSM.KEY gives. That a
micro-operation is an instruction of its own is the model's choice, log 4, and so is that RSM runs also with TOTAL or PART outside
their ranges and on a table that still holds expired entries, log 30. -/
def Obligations.ReassemblyIsItsMicroOperations : Prop :=
  ∀ (s : State) (t : Time) (k : Key), tableInv s.cfg s.rt → k = (if s.tr.seq = [] then ⟨false, []⟩ else ⟨true, s.tr.seq⟩) →
    (∀ e, tableGet s.rt k = some e →
      ∃ u v, exec (.rsm t) s = .next u ∧ runAll [.rsmStore k, .rsmFill k, .rsmComplete k] s = some v ∧
        u.rt = v.rt ∧ u.resp = v.resp ∧ u.cfg = v.cfg ∧ u.port = v.port) ∧
    (tableGet s.rt k = none → s.rt.length < s.cfg.nEntries →
      ∃ u v, exec (.rsm t) s = .next u ∧ runAll [.rsmCreate k t, .rsmStore k, .rsmFill k, .rsmComplete k] s = some v ∧
        u.rt = v.rt ∧ u.resp = v.resp ∧ u.cfg = v.cfg ∧ u.port = v.port) ∧
    (tableGet s.rt k = none → s.cfg.nEntries ≤ s.rt.length → endsWith s .dropCapacity (exec (.rsm t) s))

/-- R143, R144: RSM.EXPIRE keeps the entries of age at most 30,000 ms, RSM.SWEEP those of a smaller age and counts the others;
nothing else changes. Where the count goes (RET) is the model's choice, log 5. -/
def Obligations.ExpireAndSweepByAge : Prop :=
  ∀ (s : State) (t : Time),
    exec (.rsmExpire t) s = .next (s.withRt (s.rt.filter (fun e => decide (age e t ≤ 30000)))) ∧
    exec (.rsmSweep t) s =
      .next ((s.withRt (s.rt.filter (fun e => decide (age e t < 30000)))).withTr
        { s.tr with ret := .nat (s.rt.filter (fun e => decide (30000 ≤ age e t))).length })

/-- R147, R310: take a run of host operations with sweeps of the autonomous arbiter anywhere between them, each at a time before that
of every later DECODE: the responses are those of the run without the arbiter, SWEEP's diagnostic counts aside. That the arbiter's
sweep is the instruction RSM.SWEEP is the model's choice, log 11. -/
def Obligations.ArbiterScheduleIsInvisible : Prop :=
  ∀ (s : State) (is : List Instr), (∀ i ∈ is, isHostOp i = true ∨ isArbiter i = true) →
    is.Pairwise (fun a b => ∀ t' line t, a = .rsmSweep t' → b = .decode line t → t' < t) →
      responsesOf is s = responsesOf (is.filter (fun i => !isArbiter i)) s

/-- R146, R152: after a DECODE or a SWEEP at `t` no entry of age 30,000 ms or more is left, and no entry has appeared but the one
the sentence may open: under every key other than that of an admitted sentence of several parts the table is the swept one. So
OCC grows by at most one and stays within N_ENTRIES. -/
def Obligations.OccupancyIsBoundedByAge : Prop :=
  ∀ (s : State) (line : Bytes) (t : Time), tableInv s.cfg s.rt →
    (∃ u, exec (.decode line t) s = .next u ∧ (∀ e ∈ u.rt, age e t < 30000) ∧ u.occ ≤ s.occ + 1 ∧ u.occ ≤ s.cfg.nEntries ∧
      ∀ j, (∀ p, parseLine s.cfg line = .ok p → p.total ≠ 1 → j ≠ rsmKey p.seq) →
        tableGet u.rt j = tableGet (s.rt.filter (fun x => decide (age x t < 30000))) j) ∧
    (∃ u, exec (.sweep t) s = .next u ∧ (∀ e ∈ u.rt, age e t < 30000) ∧ u.occ ≤ s.occ ∧
      u.rt = s.rt.filter (fun x => decide (age x t < 30000)))

/-- R139, R141, R146: the part that completes a live entry (of age up to and including 30,000 ms) removes the entry and delivers the
joined message, with the fill count of the part whose index is the total and with the completing sentence's channel. -/
def Obligations.CompletingPartDeliversJoinedMessage : Prop :=
  ∀ (s : State) (line : Bytes) (t : Time) (p : Parsed) (e : Entry), tableInv s.cfg s.rt →
    parseLine s.cfg line = .ok p → p.total ≠ 1 → tableGet s.rt (rsmKey p.seq) = some e → age e t ≤ 30000 →
    (putPart e.parts p.part p.payload).length = e.total → wholeEntry (afterPart e p.part p.payload p.fill) →
      ∃ u v, exec (.decode line t) s = .next u ∧
        exec (.rsmJoin (afterPart e p.part p.payload p.fill)) (s.withTr { s.tr with chan := p.chan }) = .next v ∧
        u.resp = v.resp ∧ tableGet u.rt (rsmKey p.seq) = none ∧
        (∀ j, j ≠ rsmKey p.seq → tableGet u.rt j = tableGet (s.rt.filter (fun x => decide (age x t < 30000))) j) ∧
        u.cfg = s.cfg ∧ u.port = s.port

/-- R148, R149, R144: a sentence stored into an existing entry (of age up to and including 30,000 ms) that it does not complete is
answered with BUFFERED. The entry keeps its own total and its creation time, takes the part, and takes the fill count only from
the index equal to its own total; at an age of exactly 30,000 ms it is swept at the end of the DECODE together with that part. -/
def Obligations.StoredPartKeepsTotalAndCreation : Prop :=
  ∀ (s : State) (line : Bytes) (t : Time) (p : Parsed) (e : Entry), tableInv s.cfg s.rt →
    parseLine s.cfg line = .ok p → p.total ≠ 1 → tableGet s.rt (rsmKey p.seq) = some e → age e t ≤ 30000 →
    (putPart e.parts p.part p.payload).length ≠ e.total →
      ∃ u, exec (.decode line t) s = .next u ∧ u.resp = ⟨.none, .buffered, .nothing⟩ ∧
        (age e t < 30000 → tableGet u.rt (rsmKey p.seq) = some (afterPart e p.part p.payload p.fill)) ∧
        (age e t = 30000 → tableGet u.rt (rsmKey p.seq) = none) ∧
        (∀ j, j ≠ rsmKey p.seq → tableGet u.rt j = tableGet (s.rt.filter (fun x => decide (age x t < 30000))) j) ∧
        u.cfg = s.cfg ∧ u.port = s.port

/-- R134, R135: the first sentence of an absent key, whatever its part index, opens an entry with its total and its time; with the
live entries already at N_ENTRIES it is dropped instead and no entry is evicted to make room. -/
def Obligations.FirstPartOpensEntryOrIsDropped : Prop :=
  ∀ (s : State) (line : Bytes) (t : Time) (p : Parsed), tableInv s.cfg s.rt →
    parseLine s.cfg line = .ok p → p.total ≠ 1 →
    tableGet (s.rt.filter (fun x => decide (age x t ≤ 30000))) (rsmKey p.seq) = none →
      ((s.rt.filter (fun x => decide (age x t ≤ 30000))).length < s.cfg.nEntries →
        ∃ u, exec (.decode line t) s = .next u ∧ u.resp = ⟨.none, .buffered, .nothing⟩ ∧
          tableGet u.rt (rsmKey p.seq) =
            some { key := rsmKey p.seq, total := p.total, parts := [(p.part, p.payload)],
                   fill := if p.part = p.total then p.fill else 0, created := t } ∧
          (∀ j, j ≠ rsmKey p.seq → tableGet u.rt j = tableGet (s.rt.filter (fun x => decide (age x t < 30000))) j)) ∧
      (s.cfg.nEntries ≤ (s.rt.filter (fun x => decide (age x t ≤ 30000))).length →
        ∃ u, exec (.decode line t) s = .next u ∧ u.resp = ⟨.none, .dropCapacity, .nothing⟩ ∧
          u.rt = s.rt.filter (fun x => decide (age x t < 30000)))

/-- R141 and the source's out-of-order property: the `n` parts of a message, delivered in any order at one time to a table without
their key and with free capacity, are each answered with BUFFERED but the last to arrive, which delivers the fragments joined in
index order with the fill count of part `n`; the table ends with no entry of the key. -/
def Obligations.PartsReassembleInAnyOrder : Prop :=
  ∀ (s : State) (n : Nat) (seq : Bytes) (line : Nat → Bytes) (p : Nat → Parsed) (t : Time) (first : List Nat) (last : Nat),
    tableInv s.cfg s.rt → 2 ≤ n → tableGet s.rt (rsmKey seq) = none → s.rt.length < s.cfg.nEntries →
    (∀ i, 1 ≤ i → i ≤ n →
      parseLine s.cfg (line i) = .ok (p i) ∧ (p i).total = n ∧ (p i).part = i ∧ (p i).seq = seq) →
    (first ++ [last]).Perm ((List.range n).map (· + 1)) →
      ∃ u v w, runAll (first.map (fun i => Instr.decode (line i) t)) s = some u ∧
        responsesOf (first.map (fun i => Instr.decode (line i) t)) s = List.replicate (n - 1) ⟨.none, .buffered, .nothing⟩ ∧
        exec (.decode (line last) t) u = .next v ∧ tableGet v.rt (rsmKey seq) = none ∧
        exec .decodePayload (s.withTr { s.tr with
          payload := ((List.range n).map (fun i => (p (i + 1)).payload)).flatten, fill := (p n).fill, chan := (p last).chan }) =
            .next w ∧
        v.resp = w.resp

/-! ### The transcoder -/

/-- R179: the four inverse laws of the armor alphabet. -/
def Obligations.ArmorInverseLaws : Prop :=
  (∀ v, v < 64 → ∃ c, armEnc6 (Int.ofNat v) = .ok c ∧ (armDec6 c).toNat = v) ∧
  (∀ c, isArmor c = true → armEnc6 (Int.ofNat (armDec6 c).toNat) = .ok c) ∧
  (∀ b : Bits, b.length % 6 = 0 → ∃ str, armPack b = .ok str ∧ armUnpack str = b) ∧
  (∀ b : Bits, ∃ str, armPack (armPad6 b) = .ok str ∧
    armUnpack str = b ++ List.replicate ((6 - b.length % 6) % 6) false)

/-- R170, R172, R173, R174, R180, with R51's place of every bit: ARM.DEC6 on the alphabet, ARM.UNPACK, ARM.STRIP with the quirk of
fill 6, and ARM.DECODE as the sequence of the two. Where ARM.DEC6's value goes (RET) is the model's choice, log 5, and so is that
ARM.UNPACK and ARM.DECODE run also on a PAYLOAD with bytes outside the alphabet, with six free bits for each of them, log 12, and
on one so long that BITS passes the greatest length of R29, log 30. -/
def Obligations.ArmorDecodeOperations : Prop :=
  ∀ s : State,
    (∀ c, isArmor c = true →
      exec (.armDec6 c) s = .next (s.withTr { s.tr with
        ret := .nat (if 40 < c.toNat - 48 then c.toNat - 48 - 8 else c.toNat - 48) })) ∧
    (∃ b, exec .armUnpack s = .next (s.withTr { s.tr with bits := b }) ∧ b.length = 6 * s.tr.payload.length ∧
      ∀ i j c, j < 6 → s.tr.payload[i]? = some c → isArmor c = true →
        b[6 * i + j]? = some ((if 40 < c.toNat - 48 then c.toNat - 48 - 8 else c.toNat - 48).testBit (5 - j))) ∧
    (s.tr.fill = 0 ∨ s.tr.fill = 6 → exec .armStrip s = .next s) ∧
    (s.tr.fill ≠ 0 → s.tr.fill ≠ 6 → s.tr.bits.length ≤ s.tr.fill.val →
      exec .armStrip s = .next (s.withTr { s.tr with bits := [] })) ∧
    (s.tr.fill ≠ 0 → s.tr.fill ≠ 6 → s.tr.fill.val < s.tr.bits.length →
      exec .armStrip s = .next (s.withTr { s.tr with bits := s.tr.bits.take (s.tr.bits.length - s.tr.fill.val) })) ∧
    (∃ u, runAll [.armUnpack, .armStrip] s = some u ∧ exec .armDecode s = .next u)

/-- R175, R176, R177, R178, R181, R280: ARM.PAD6, ARM.ENC6 with its fault, ARM.PACK, and ARM.ENCODE and EMT.PAD as the sequence of
padding and packing. Where the values go (RET, ACC) is the model's choice, log 5. -/
def Obligations.ArmorEncodeOperations : Prop :=
  ∀ s : State,
    exec .armPad6 s = .next (s.withTr { s.tr with
      bits := s.tr.bits ++ List.replicate ((6 - s.tr.bits.length % 6) % 6) false }) ∧
    (∀ v : Int, 0 ≤ v → v < 40 → exec (.armEnc6 v) s = .next (s.withTr { s.tr with ret := .byte (BitVec.ofInt 8 (v + 48)) })) ∧
    (∀ v : Int, 40 ≤ v → v ≤ 63 → exec (.armEnc6 v) s = .next (s.withTr { s.tr with ret := .byte (BitVec.ofInt 8 (v + 56)) })) ∧
    (∀ v : Int, v < 0 ∨ 63 < v → endsWith s .encArmorRange (exec (.armEnc6 v) s)) ∧
    (s.tr.bits.length % 6 = 0 →
      ∃ str, exec .armPack s = .next (s.withTr { s.tr with ret := .str str, acc := str }) ∧
        6 * str.length = s.tr.bits.length ∧
        ∀ i c, str[i]? = some c →
          c.toNat = (if uint ((s.tr.bits.drop (6 * i)).take 6) < 40 then uint ((s.tr.bits.drop (6 * i)).take 6) + 48
            else uint ((s.tr.bits.drop (6 * i)).take 6) + 56)) ∧
    (∃ u, runAll [.armPad6, .armPack] s = some u ∧ exec .armEncode s = .next u ∧ exec .emtPad s = .next u)

/-- R79, R170, R172, R176, R177: each of the 64 rows of the payload alphabet, with the byte and value its table gives: receiving it
appends the six bits of the value to BITS, transmitting it appends the byte to the string under construction (ACC, log 5 and
log 15); nothing else changes. That BITS may so pass the greatest length of R29 is the model's choice, log 30. -/
def Obligations.ArmorRowsAppend : Prop :=
  armorInstrs.length = 64 ∧
  ∀ r ∈ armorInstrs, ∀ s : State,
    r.1.toNat = (if r.2.1 < 40 then r.2.1 + 48 else r.2.1 + 56) ∧ r.2.1 < 64 ∧
    (∃ b, exec (r.2.2 .rx) s = .next (s.withTr { s.tr with bits := s.tr.bits ++ b }) ∧ b.length = 6 ∧ uint b = r.2.1) ∧
    exec (r.2.2 .tx) s = .next (s.withTr { s.tr with acc := s.tr.acc ++ [r.1] })

/-- R172: ARM.UNPACK is the receiving rows of the payload's characters one after the other, from an empty BITS. -/
def Obligations.UnpackIsTheRowsInTurn : Prop :=
  ∀ (s : State) (payload : Bytes), (∀ c ∈ payload, isArmor c = true) →
    ∃ (is : List Instr) (u v : State),
      List.Forall₂ (fun c i => decode s.cfg ⟨.armor c, [.dir .rx]⟩ = .ok i) payload is ∧
      runAll is (s.withTr { s.tr with bits := [] }) = some u ∧
      exec .armUnpack (s.withTr { s.tr with payload := payload }) = .next v ∧ u.tr.bits = v.tr.bits

/-! ### The field primitives -/

/-- R54, R55: the two readings of a bit string as a number. -/
def Obligations.BitStringsAsNumbers : Prop :=
  (∀ b : Bits, uint b = ((List.range b.length).map (fun j => (b.getD j false).toNat * 2 ^ (b.length - 1 - j))).sum) ∧
  (∀ b : Bits, b ≠ [] →
    (b.head? = some false → sint b = Int.ofNat (uint b)) ∧
    (b.head? = some true → sint b = -(Int.ofNat (uint (b.map (fun x => !x))) + 1) ∧
      sint b = Int.ofNat (uint b) - 2 ^ b.length) ∧
    -(2 ^ (b.length - 1)) ≤ sint b ∧ sint b ≤ 2 ^ (b.length - 1) - 1) ∧
  (∀ w : Nat, sint (true :: List.replicate w false) = -(2 ^ w))

/-- R190, R191, R192: FLD.GETU, FLD.GETS and FLD.GETT on a slice inside BITS; nothing but the returned value changes. Where it goes
(RET, and ACC for a text) is the model's choice, log 5; that a read of width 0, for which the spec states no result, returns some
number is the model's choice too, log 30. -/
def Obligations.FieldReads : Prop :=
  ∀ (s : State) (o : Nat),
    (∀ w, 1 ≤ w → o + w ≤ s.tr.bits.length →
      exec (.fldGetu o w) s = .next (s.withTr { s.tr with ret := .nat (uint ((s.tr.bits.drop o).take w)) }) ∧
      uint ((s.tr.bits.drop o).take w) < 2 ^ w ∧
      exec (.fldGets o w) s = .next (s.withTr { s.tr with ret := .int (sint ((s.tr.bits.drop o).take w)) }) ∧
      -(2 ^ (w - 1)) ≤ sint ((s.tr.bits.drop o).take w) ∧ sint ((s.tr.bits.drop o).take w) < 2 ^ (w - 1)) ∧
    (∃ n z, exec (.fldGetu o 0) s = .next (s.withTr { s.tr with ret := .nat n }) ∧
      exec (.fldGets o 0) s = .next (s.withTr { s.tr with ret := .int z })) ∧
    (∀ n, o + 6 * n ≤ s.tr.bits.length →
      ∃ text, exec (.fldGett o n) s = .next (s.withTr { s.tr with ret := .str text, acc := text }) ∧
        spellsText s.tr.bits o n text)

/-- R193: what trimming takes away: all trailing `'@'` once, then all spaces at both ends, and nothing inside. -/
def Obligations.TrimTakesOuterPaddingOnce : Prop :=
  ∀ raw : Bytes, ∃ i j k,
    raw = List.replicate i 0x20#8 ++ trimText raw ++ List.replicate j 0x20#8 ++ List.replicate k 0x40#8 ∧
    (List.replicate i 0x20#8 ++ trimText raw ++ List.replicate j 0x20#8).getLast? ≠ some 0x40#8 ∧
    (trimText raw).head? ≠ some 0x20#8 ∧ (trimText raw).getLast? ≠ some 0x20#8

/-- R194, R195, R196: FLD.PUTU and FLD.PUTS append `w` bits that spell the value, or raise the range fault; FLD.PUTT appends `n`
groups, padding with `'@'` or truncating, an unknown character as 0, and never faults. At the width 0, for which R195 states no
range, FLD.PUTS appends nothing or raises its fault: the model's choice, log 30, and so is that the writes append to BITS of any
length, beyond those of R29 too. -/
def Obligations.FieldWrites : Prop :=
  ∀ s : State,
    (∀ (v : RecInt) (w : Nat),
      (0 ≤ v → v < 2 ^ w →
        ∃ b, exec (.fldPutu v w) s = .next (s.withTr { s.tr with bits := s.tr.bits ++ b }) ∧ b.length = w ∧
          Int.ofNat (uint b) = v) ∧
      (v < 0 ∨ 2 ^ w ≤ v → endsWith s .encUnsignedRange (exec (.fldPutu v w) s)) ∧
      (1 ≤ w → -(2 ^ (w - 1)) ≤ v → v ≤ 2 ^ (w - 1) - 1 →
        ∃ b, exec (.fldPuts v w) s = .next (s.withTr { s.tr with bits := s.tr.bits ++ b }) ∧ b.length = w ∧ sint b = v) ∧
      (1 ≤ w → v < -(2 ^ (w - 1)) ∨ 2 ^ (w - 1) - 1 < v → endsWith s .encSignedRange (exec (.fldPuts v w) s)) ∧
      (exec (.fldPuts v 0) s = .next s ∨ endsWith s .encSignedRange (exec (.fldPuts v 0) s))) ∧
    (∀ (text : Bytes) (n : Nat),
      ∃ b, exec (.fldPutt text n) s = .next (s.withTr { s.tr with bits := s.tr.bits ++ b }) ∧ b.length = 6 * n ∧
        ∀ i, i < n → uint ((b.drop (6 * i)).take 6) =
          (let c := (text.getD i 0x40#8).toNat
           if 0x40 ≤ c ∧ c ≤ 0x5F then c - 64 else if 0x20 ≤ c ∧ c ≤ 0x3F then c else 0))

/-- R200: what is written at the end of BITS is read back at that offset. Where the value read goes (RET) is the model's choice,
log 5. -/
def Obligations.FieldMirrorLaws : Prop :=
  ∀ (s : State) (v : RecInt) (w : Nat), 1 ≤ w →
    (0 ≤ v → v < 2 ^ w →
      ∃ u x, exec (.fldPutu v w) s = .next u ∧ exec (.fldGetu s.tr.bits.length w) u = .next x ∧
        x.tr.ret = .nat v.toNat) ∧
    (-(2 ^ (w - 1)) ≤ v → v ≤ 2 ^ (w - 1) - 1 →
      ∃ u x, exec (.fldPuts v w) s = .next u ∧ exec (.fldGets s.tr.bits.length w) u = .next x ∧ x.tr.ret = .int v) ∧
    (∀ (text : Bytes) (n : Nat),
      ∃ u x, exec (.fldPutt text n) s = .next u ∧ exec (.fldGett s.tr.bits.length n) u = .next x ∧
        x.tr.ret = .str (textBack text n) ∧
        (text.length ≤ n → (∀ c ∈ text, 0x20 ≤ c.toNat ∧ c.toNat ≤ 0x5F) → text.head? ≠ some 0x20#8 →
          text.getLast? ≠ some 0x20#8 → text.getLast? ≠ some 0x40#8 → x.tr.ret = .str text))

/-- R80, R192, R196: each of the 64 rows of the text alphabet, with the value and character its table gives: receiving it appends
the character to the string under construction (ACC, log 5 and log 15), transmitting it appends the six bits of the value to BITS;
nothing else changes. That BITS may so pass the lengths of R29 is the model's choice, log 30. -/
def Obligations.TextRowsAppend : Prop :=
  textInstrs.length = 64 ∧
  ∀ r ∈ textInstrs, ∀ s : State,
    r.2.1.toNat = (if r.1 < 32 then r.1 + 64 else r.1) ∧ r.1 < 64 ∧
    exec (r.2.2 .rx) s = .next (s.withTr { s.tr with acc := s.tr.acc ++ [r.2.1] }) ∧
    ∃ b, exec (r.2.2 .tx) s = .next (s.withTr { s.tr with bits := s.tr.bits ++ b }) ∧ b.length = 6 ∧ uint b = r.1

/-- R197, R307: FLD.TYPE goes to the decode of the type's layout or drops, by the first six bits and the length; DECODE_PAYLOAD is
ARM.DECODE followed by FLD.TYPE. That they run also with a CHAN other than A and B, and on BITS longer than the greatest length of
R29, is the model's choice, log 30, and so is that DECODE_PAYLOAD runs also on a PAYLOAD with bytes outside the alphabet, log 12. -/
def Obligations.TypeChoosesTheLayout : Prop :=
  ∀ s : State,
    (s.tr.bits.length < 6 → endsWith s .dropShort (exec .fldType s)) ∧
    (6 ≤ s.tr.bits.length →
      (uint (s.tr.bits.take 6) = 5 → s.tr.bits.length < 424 → endsWith s .dropShort (exec .fldType s)) ∧
      (uint (s.tr.bits.take 6) = 5 → 424 ≤ s.tr.bits.length →
        ∃ u, exec .fldType s = .next u ∧ exec .statDecode s = .next u) ∧
      (∀ ty, ty = 1 ∨ ty = 2 ∨ ty = 3 → uint (s.tr.bits.take 6) = ty →
        (s.tr.bits.length < 168 → endsWith s .dropShort (exec .fldType s)) ∧
        (168 ≤ s.tr.bits.length → ∃ u, exec .fldType s = .next u ∧ exec .posDecode s = .next u)) ∧
      (uint (s.tr.bits.take 6) ∉ [1, 2, 3, 5] → endsWith s .dropType (exec .fldType s))) ∧
    (∃ u, runAll [.armDecode, .fldType] s = some u ∧ exec .decodePayload s = .next u)

/-! ### The two layouts -/

/-- R83, R210 to R227: what POS.DECODE reads, field by field; BITS beyond these slices is not read, the record takes CHAN, is
delivered with (POS, OK), and nothing else changes. The offsets and most widths are the ones R83 supplies "from general knowledge,
not in source", log 20. That it delivers a record also from bits of a type other than 1, 2 and 3, and with a CHAN other than A and
B, is the model's choice, log 30. -/
def Obligations.PositionDecodeReadsLayout : Prop :=
  ∀ s : State, 168 ≤ s.tr.bits.length →
    let f := fun o w => uint ((s.tr.bits.drop o).take w)
    let g := fun o w => sint ((s.tr.bits.drop o).take w)
    ∃ r : PosRecord, exec .posDecode s = .next ((s.withTr { s.tr with pos := r }).withResp ⟨.pos, .ok, .pos r⟩) ∧
      r.msgType.toNat = f 0 6 ∧ r.repeatInd.toNat = f 6 2 ∧ r.mmsi.toNat = f 8 30 ∧ r.navStatus.toNat = f 38 4 ∧
      r.rot.toInt = g 42 8 ∧ r.sog.toNat = f 50 10 ∧ r.posAcc.toNat = f 60 1 ∧ r.lon.toInt = g 61 28 ∧ r.lat.toInt = g 89 27 ∧
      r.cog.toNat = f 116 12 ∧ r.heading.toNat = f 128 9 ∧ r.utcSec.toNat = f 137 6 ∧ r.maneuver.toNat = f 143 2 ∧
      r.raim.toNat = f 148 1 ∧ r.radio.toNat = f 149 19 ∧ r.channel = s.tr.chan

/-- R84, R240 to R262: what STAT.DECODE reads, field by field, the DTE bit inverted; the record takes CHAN, is delivered with
(STAT, OK), and nothing else changes. The three texts are the groups of their slices, trimmed. The offsets and most widths are the ones
R84 supplies "from general knowledge, not in source", log 20. That it delivers a record also from bits of a type other than 5, and
with a CHAN other than A and B, is the model's choice, log 30. -/
def Obligations.StaticDecodeReadsLayout : Prop :=
  ∀ s : State, 424 ≤ s.tr.bits.length →
    let f := fun o w => uint ((s.tr.bits.drop o).take w)
    ∃ r : StatRecord, exec .statDecode s = .next ((s.withTr { s.tr with stat := r }).withResp ⟨.stat, .ok, .stat r⟩) ∧
      r.msgType.toNat = f 0 6 ∧ r.repeatInd.toNat = f 6 2 ∧ r.mmsi.toNat = f 8 30 ∧ r.aisVersion.toNat = f 38 2 ∧
      r.imo.toNat = f 40 30 ∧ r.shipType.toNat = f 232 8 ∧ r.toBow.toNat = f 240 9 ∧ r.toStern.toNat = f 249 9 ∧
      r.toPort.toNat = f 258 6 ∧ r.toStarboard.toNat = f 264 6 ∧ r.epfd.toNat = f 270 4 ∧ r.etaMonth.toNat = f 274 4 ∧
      r.etaDay.toNat = f 278 5 ∧ r.etaHour.toNat = f 283 5 ∧ r.etaMinute.toNat = f 288 6 ∧ r.draught.toNat = f 294 8 ∧
      r.dteAvailable.toNat + f 422 1 = 1 ∧ r.channel = s.tr.chan ∧
      spellsText s.tr.bits 70 7 r.callsign ∧ spellsText s.tr.bits 112 20 r.name ∧ spellsText s.tr.bits 302 20 r.destination

/-- R199, R228: POS.ENCODE raises the fault of the first check that fails, the type first and then the fields in layout order, or
packs exactly 168 bits from which POS.DECODE reads the operand with absent registers replaced by their sentinels, the spare bits
being 0. Keeping the operand in its registers is the model's choice, log 4; the layout is the one of log 20; that POS.DECODE takes
any CHAN is the model's choice, log 30. -/
def Obligations.PositionEncodePacksOrFaults : Prop :=
  ∀ (s : State) (op : PosOperand),
    (∀ c, firstFailure (posChecks op) = some c → endsWith s c (exec (.posEncode op) s)) ∧
    (firstFailure (posChecks op) = none →
      ∃ b, exec (.posEncode op) s = .next (s.withTr { s.tr with posOp := op, bits := b }) ∧ b.length = 168 ∧
        (b.drop 145).take 3 = [false, false, false] ∧
        ∀ ch u, exec .posDecode (s.withTr { s.tr with bits := b, chan := ch }) = .next u → u.tr.pos = posRoundTrip op ch)

/-- R199, R263: STAT.ENCODE, as for POS.ENCODE, with exactly 424 bits, the spare bit being 0 and the texts coming back as R266 says.
Keeping the operand in its registers is the model's choice, log 4; the layout is the one of log 20; that STAT.DECODE takes any CHAN
is the model's choice, log 30. -/
def Obligations.StaticEncodePacksOrFaults : Prop :=
  ∀ (s : State) (op : StatOperand),
    (∀ c, firstFailure (statChecks op) = some c → endsWith s c (exec (.statEncode op) s)) ∧
    (firstFailure (statChecks op) = none →
      ∃ b, exec (.statEncode op) s = .next (s.withTr { s.tr with statOp := op, bits := b }) ∧ b.length = 424 ∧
        b[423]? = some false ∧
        ∀ ch u, exec .statDecode (s.withTr { s.tr with bits := b, chan := ch }) = .next u → u.tr.stat = statRoundTrip op ch)

/-- R231: a valid Position operand gives one line, whatever the draw; DECODE of that line, in any table and at any time, delivers the
operand with absent registers replaced by their sentinels; and a 168-bit Position message with zero spare bits is what the record
decoded from it encodes to. The line has 47 bytes, so the decoding machine must admit at least that length (the default limits do). -/
def Obligations.PositionRoundTrip : Prop :=
  (∀ (op : PosOperand) (ch : Byte), firstFailure (posChecks op ++ [chanCheck op.channel]) = none → op.channel = [ch] →
    ∃ line : Bytes, ∀ (s : State) (d : SeqDraw),
      (∃ u, exec (.encpos op d) s = .next u ∧ u.resp = ⟨.lines, .ok, .lines [line]⟩) ∧
      ∀ t : Time, 47 ≤ s.cfg.sentMax → 1 ≤ s.cfg.partsMax →
        ∃ v, exec (.decode line t) s = .next v ∧ v.resp = ⟨.pos, .ok, .pos (posRoundTrip op ch)⟩) ∧
  (∀ (s : State) (b : Bits), b.length = 168 → (uint (b.take 6) = 1 ∨ uint (b.take 6) = 2 ∨ uint (b.take 6) = 3) →
    (b.drop 145).take 3 = [false, false, false] →
      ∃ u v, exec .posDecode (s.withTr { s.tr with bits := b }) = .next u ∧
        exec (.posEncode (posOperandOf u.tr.pos)) u = .next v ∧ v.tr.bits = b)

/-- R266: a valid Static operand gives two lines with any draw; delivered in either order, the second less than 30,000 ms after the
first, to a table with no entry of the draw's key and with free capacity, the first is buffered and the second delivers the operand
with absent registers replaced by their sentinels and the texts as R266 says. The longer line has 80 bytes, so the machine
must admit at least that length, and two parts (the default limits do). -/
def Obligations.StaticRoundTrip : Prop :=
  ∀ (op : StatOperand) (ch : Byte) (d : SeqDraw),
    firstFailure (statChecks op ++ [chanCheck op.channel]) = none → op.channel = [ch] →
    ∃ l1 l2 : Bytes, ∀ s : State,
      (∃ u, exec (.encstat op d) s = .next u ∧ u.resp = ⟨.lines, .ok, .lines [l1, l2]⟩) ∧
      ∀ a b t1 t2, (a = l1 ∧ b = l2) ∨ (a = l2 ∧ b = l1) → t1 ≤ t2 → t2 < t1 + 30000 →
        80 ≤ s.cfg.sentMax → 2 ≤ s.cfg.partsMax → tableInv s.cfg s.rt → tableGet s.rt ⟨true, dec d.digit⟩ = none →
        s.rt.length < s.cfg.nEntries →
          ∃ v w, exec (.decode a t1) s = .next v ∧ v.resp = ⟨.none, .buffered, .nothing⟩ ∧
            exec (.decode b t2) v = .next w ∧ w.resp = ⟨.stat, .ok, .stat (statRoundTrip op ch)⟩

/-! ### The encodes and the emitter -/

/-- R303, R304, R288, R290, R340: ENCPOS and ENCSTAT answer with one line of 47 bytes, or two of 80 and 31, or with the fault of the
first check that fails, the channel last; RT is untouched either way. -/
def Obligations.EncodesEmitLinesOrFault : Prop :=
  ∀ (s : State) (d : SeqDraw),
    (∀ op : PosOperand,
      (∀ c, firstFailure (posChecks op ++ [chanCheck op.channel]) = some c → endsWith s c (exec (.encpos op d) s)) ∧
      (firstFailure (posChecks op ++ [chanCheck op.channel]) = none →
        ∃ u l, exec (.encpos op d) s = .next u ∧ u.resp = ⟨.lines, .ok, .lines [l]⟩ ∧ l.length = 47 ∧
          u.rt = s.rt ∧ u.cfg = s.cfg ∧ u.port = s.port)) ∧
    (∀ op : StatOperand,
      (∀ c, firstFailure (statChecks op ++ [chanCheck op.channel]) = some c → endsWith s c (exec (.encstat op d) s)) ∧
      (firstFailure (statChecks op ++ [chanCheck op.channel]) = none →
        ∃ u l1 l2, exec (.encstat op d) s = .next u ∧ u.resp = ⟨.lines, .ok, .lines [l1, l2]⟩ ∧ l1.length = 80 ∧
          l2.length = 31 ∧ u.rt = s.rt ∧ u.cfg = s.cfg ∧ u.port = s.port))

/-- R281 to R286: the pieces of the emitter. Where their values go (RET) is the model's choice, log 5; that EMT.CHUNK of the empty
string, for which the spec states no result, returns some chunks, that EMT.LINE writes also a part index outside 1..N and any
channel, chunk and fill count, that EMT.FILL takes any length and EMT.SEQ any count, are the model's choices too, log 30. -/
def Obligations.EmitterPieces : Prop :=
  ∀ s : State,
    (∀ p : Bytes, p ≠ [] →
      ∃ cs : List Bytes, exec (.emtChunk p) s = .next (s.withTr { s.tr with ret := .strs cs }) ∧ cs.flatten = p ∧
        cs.length = (p.length + 59) / 60 ∧ (∀ c ∈ cs.dropLast, c.length = 60) ∧
        ∀ c, cs.getLast? = some c → 1 ≤ c.length ∧ c.length ≤ 60) ∧
    (∃ cs : List Bytes, exec (.emtChunk []) s = .next (s.withTr { s.tr with ret := .strs cs })) ∧
    (∀ n, exec (.emtFill n) s = .next (s.withTr { s.tr with
      ret := .nat (if n % 4 = 0 then 0 else if n % 4 = 1 then 2 else if n % 4 = 2 then 4 else 6) })) ∧
    (∀ d, exec (.emtSeq 1 d) s = .next (s.withTr { s.tr with ret := .str [] })) ∧
    (∀ n d, n ≠ 1 → exec (.emtSeq n d) s = .next (s.withTr { s.tr with ret := .str [BitVec.ofNat 8 (0x30 + d.digit)] })) ∧
    (∀ ch : Byte, ch = 0x41#8 ∨ ch = 0x42#8 → exec (.emtChan [ch]) s = .next (s.withTr { s.tr with ret := .byte ch })) ∧
    (∀ c : Bytes, c ≠ [0x41#8] → c ≠ [0x42#8] → endsWith s .encChannel (exec (.emtChan c) s)) ∧
    (∀ body : Bytes, ∃ h l a b, exec (.emtCksum body) s = .next (s.withTr { s.tr with ret := .str [h, l] }) ∧
      hexVal h = some a ∧ hexVal l = some b ∧ h.toNat < 0x61 ∧ l.toNat < 0x61 ∧
      ∀ i, i < 8 → (BitVec.ofNat 8 (16 * a + b)).getLsbD i = parityBit body i) ∧
    (∀ n i seqId ch chunk f,
      ∃ (g : Groups), exec (.emtLine n i seqId ch chunk f) s = .next (s.withTr { s.tr with ret := .str g.line }) ∧
        g.tag = aivdmBytes ∧ isNumeral g.total n ∧ isNumeral g.part i ∧ isNumeral g.fill f ∧
        g.seq = seqId ∧ g.chan = ch ∧ g.payload = chunk ∧
        exec (.emtCksum g.body) s = .next (s.withTr { s.tr with ret := .str [g.h, g.l] }))

/-- R287: EMT pads BITS, writes OUT with one line for each chunk of the payload, numbered from 1, each with its own fill count, and
delivers OUT; a bad channel is the fault ENC_CHANNEL and nothing is emitted. Where the pieces put their values (RET) is the model's
choice, log 5, and so is that EMT runs also on an empty BITS, and that OUT takes more lines than R35 says it holds, log 30. -/
def Obligations.EmitWritesOneLinePerChunk : Prop :=
  ∀ (s : State) (d : SeqDraw),
    (∀ ch : Byte, ch = 0x41#8 ∨ ch = 0x42#8 →
      ∃ (payload : Bytes) (cs lines : List Bytes) (x y : State),
        exec .emtPad s = .next x ∧ x.tr.ret = .str payload ∧ exec (.emtChunk payload) s = .next y ∧ y.tr.ret = .strs cs ∧
        exec (.emt [ch] d) s = .next ((s.withTr { s.tr with bits := x.tr.bits, out := lines }).withResp ⟨.lines, .ok, .lines lines⟩) ∧
        lines.length = cs.length ∧
        ∀ i c, cs[i]? = some c →
          ∃ z seqId, exec (.emtSeq cs.length d) s = .next (s.withTr { s.tr with ret := .str seqId }) ∧
            exec (.emtLine cs.length (i + 1) seqId ch c ((8 - (6 * c.length) % 8) % 8)) s = .next z ∧
            ∃ line, lines[i]? = some line ∧ z.tr.ret = .str line) ∧
    (∀ c : Bytes, c ≠ [0x41#8] → c ≠ [0x42#8] → endsWith s .encChannel (exec (.emt c d) s))

/-- R119: every line the emitter writes is admitted by PARSE and verifies, on any machine whose limits it is within: the registers
show tag AIVDM, the number of lines as the total, its place as the part, and a fill count in 0, 2, 4, 6. That OUT takes more lines
than R35 says it holds is the model's choice, log 30. -/
def Obligations.EmittedLinesAreAdmitted : Prop :=
  ∀ (s m : State) (ch : Byte) (d : SeqDraw), ch = 0x41#8 ∨ ch = 0x42#8 → s.tr.bits ≠ [] →
    ∃ (u : State) (lines : List Bytes), exec (.emt [ch] d) s = .next u ∧ u.resp = ⟨.lines, .ok, .lines lines⟩ ∧
      ∀ i line, lines[i]? = some line → line.length ≤ m.cfg.sentMax → lines.length ≤ m.cfg.partsMax →
        ∃ v, exec (.parse line) m = .next v ∧ v.resp = m.resp ∧ v.rt = m.rt ∧ v.tr.line = line ∧ v.tr.tag = 0 ∧
          v.tr.total = lines.length ∧ v.tr.part = i + 1 ∧ v.tr.chan = ch ∧ v.tr.fill.val ∈ [0, 2, 4, 6]

/-! ### The other rows of the table -/

/-- R81, R82, R197, R210, R332: each of the 64 message types in both directions: a received message of type 1, 2 or 3 with at least
168 bits is decoded as a Position report, one of type 5 with at least 424 bits as a Static one, a shorter one is dropped, and any
other type is dropped for its type; a record of type 1, 2 or 3 is packed by POS.ENCODE, one of type 5 by STAT.ENCODE, and a Position
record of any other type is the fault ENC_TYPE. That a row is used in this way is the model's choice, log 16, and so is that a
receiving row takes any number of bits, more than the greatest length that R29 gives BITS too, log 30. -/
def Obligations.MessageTypeRows : Prop :=
  posTypeInstrs.length = 63 ∧
  (∀ r ∈ posTypeInstrs, ∀ (s : State) (rest : Bits) (op : PosOperand),
    r.1 < 64 ∧ r.1 ≠ 5 ∧
    (r.1 ∈ [1, 2, 3] →
      (168 ≤ 6 + rest.length →
        ∃ u b, exec (r.2 (.rx rest)) s = .next u ∧ b.length = 6 ∧ uint b = r.1 ∧
          exec .posDecode (s.withTr { s.tr with bits := b ++ rest }) = .next u) ∧
      (6 + rest.length < 168 → endsWith s .dropShort (exec (r.2 (.rx rest)) s)) ∧
      ∃ u, exec (r.2 (.tx op)) s = .next u ∧ exec (.posEncode { op with msgType := r.1 }) s = .next u) ∧
    (r.1 ∉ [1, 2, 3] →
      endsWith s .dropType (exec (r.2 (.rx rest)) s) ∧ endsWith s .encType (exec (r.2 (.tx op)) s))) ∧
  (∀ (s : State) (rest : Bits) (op : StatOperand),
    (424 ≤ 6 + rest.length →
      ∃ u b, exec (.msgtype5 (.rx rest)) s = .next u ∧ b.length = 6 ∧ uint b = 5 ∧
        exec .statDecode (s.withTr { s.tr with bits := b ++ rest }) = .next u) ∧
    (6 + rest.length < 424 → endsWith s .dropShort (exec (.msgtype5 (.rx rest)) s)) ∧
    ∃ u, exec (.msgtype5 (.tx op)) s = .next u ∧ exec (.statEncode op) s = .next u)

/-- R72, R104, R113: each of the two sentence rows is PARSE of the sentence with that tag; an admitted one writes the parse registers
and leaves TAG as its row says, a dropped one saves nothing. That a row is used in this way is the model's choice, log 17. -/
def Obligations.SentenceRowsParse : Prop :=
  ∀ (s : State) (rest : Bytes),
    (∃ u, exec (.aivdm rest) s = .next u ∧ exec (.parse ([0x21#8] ++ aivdmBytes ++ rest)) s = .next u) ∧
    (∃ u, exec (.aivdo rest) s = .next u ∧ exec (.parse ([0x21#8] ++ aivdoBytes ++ rest)) s = .next u) ∧
    (∀ p, parseLine s.cfg ([0x21#8] ++ aivdmBytes ++ rest) = .ok p →
      p.tag = 0 ∧ exec (.aivdm rest) s = .next (s.withTr { s.tr with
        line := [0x21#8] ++ aivdmBytes ++ rest, tag := p.tag, total := p.total, part := p.part, seq := p.seq, chan := p.chan,
        payload := p.payload, fill := p.fill, cksum := p.cksum })) ∧
    (∀ p, parseLine s.cfg ([0x21#8] ++ aivdoBytes ++ rest) = .ok p →
      p.tag = 1 ∧ exec (.aivdo rest) s = .next (s.withTr { s.tr with
        line := [0x21#8] ++ aivdoBytes ++ rest, tag := p.tag, total := p.total, part := p.part, seq := p.seq, chan := p.chan,
        payload := p.payload, fill := p.fill, cksum := p.cksum })) ∧
    (∀ c, parseLine s.cfg ([0x21#8] ++ aivdmBytes ++ rest) = .error c → endsWith s c (exec (.aivdm rest) s)) ∧
    (∀ c, parseLine s.cfg ([0x21#8] ++ aivdoBytes ++ rest) = .error c → endsWith s c (exec (.aivdo rest) s))

/-- R86, R321, R322, R339, R340: the rows of the response. A kind delivers its register; OK keeps kind and value; BUFFERED answers
without a record; each drop and each fault saves nothing; ILLEGAL_OP is the refusal's answer and changes nothing else; the reserved
cause 15 is never produced, and its row stops. That a row is used in this way, also where a kind then stands beside a cause that no
operation produces with it, is the model's choice, log 18. -/
def Obligations.ResponseRows : Prop :=
  ∀ s : State,
    exec .kindNone s = .next (s.withResp ⟨.none, s.resp.cause, .nothing⟩) ∧
    exec .kindPos s = .next (s.withResp ⟨.pos, s.resp.cause, .pos s.tr.pos⟩) ∧
    exec .kindStat s = .next (s.withResp ⟨.stat, s.resp.cause, .stat s.tr.stat⟩) ∧
    exec .kindLines s = .next (s.withResp ⟨.lines, s.resp.cause, .lines s.tr.out⟩) ∧
    exec .causeOk s = .next (s.withResp ⟨s.resp.kind, .ok, s.resp.value⟩) ∧
    exec .causeBuffered s = .next (s.withResp ⟨.none, .buffered, .nothing⟩) ∧
    (∀ r ∈ abortInstrs, endsWith s r.2 (exec r.1 s)) ∧
    exec .causeIllegalOp s = .next (s.withResp ⟨.none, .illegalOp, .nothing⟩) ∧
    exec .causeReserved15 s = .refused .reservedCause

end
end

