-- ==== Sys2Proof/Laws/Bits.lean ====
section
/-! SUPPORT. Laws of bit strings: lengths, numbers to bits and back, reads of appended bits, and the field writes. -/

namespace Sys2Proof.Machine

/-! ### Numbers and bits -/

@[simp] theorem bitsW_length (w v : Nat) : (bitsW w v).length = w := by
  induction w with
  | zero => rfl
  | succ w ih => simp [bitsW, ih]

theorem uint_lt (b : Bits) : uint b < 2 ^ b.length := by
  induction b with
  | nil => simp [uint]
  | cons x xs ih =>
    simp only [uint, List.length_cons, Nat.pow_succ]
    cases x <;> simp <;> omega

theorem uint_append (a b : Bits) : uint (a ++ b) = uint a * 2 ^ b.length + uint b := by
  induction a with
  | nil => simp [uint]
  | cons x xs ih =>
    simp only [List.cons_append, uint, ih, List.length_append, Nat.pow_add]
    ring

/-- The low bits of a number read back as the number modulo the width. -/
theorem uint_bitsW_mod (w v : Nat) : uint (bitsW w v) = v % 2 ^ w := by
  induction w with
  | zero => simp [bitsW, uint, Nat.mod_one]
  | succ w ih =>
    rw [bitsW, uint, ih, bitsW_length, Nat.mod_pow_succ, Nat.testBit_eq_decide_div_mod_eq]
    rcases Nat.mod_two_eq_zero_or_one (v / 2 ^ w) with h | h
    · simp [h]
    · simp [h, Nat.add_comm]

theorem uint_bitsW {w v : Nat} (h : v < 2 ^ w) : uint (bitsW w v) = v := by rw [uint_bitsW_mod, Nat.mod_eq_of_lt h]

/-- Two bit strings of one length with one number are one bit string. -/
theorem uint_inj {a b : Bits} (hl : a.length = b.length) (h : uint a = uint b) : a = b := by
  induction a generalizing b with
  | nil => exact (List.length_eq_zero_iff.1 hl.symm).symm
  | cons x xs ih =>
    cases b with
    | nil => simp at hl
    | cons y ys =>
      have hl' : xs.length = ys.length := by simpa using hl
      have h1 := uint_lt xs
      have h2 := uint_lt ys
      simp only [uint, hl'] at h
      rw [hl'] at h1
      cases x <;> cases y <;> simp at h ⊢
      · exact ih hl' h
      · omega
      · omega
      · exact ih hl' h

/-- The bits of the number that a bit string spells are the bit string. -/
theorem bitsW_uint (b : Bits) : bitsW b.length (uint b) = b :=
  uint_inj (bitsW_length _ _) (uint_bitsW (uint_lt b))

/-! ### Reads -/

theorem readBits_inside {b : Bits} {o w : Nat} (h : o + w ≤ b.length) : readBits b o w = (b.drop o).take w := if_pos h

@[simp] theorem readBits_length (b : Bits) (o w : Nat) : (readBits b o w).length = w := by
  unfold readBits
  split
  · simp only [List.length_take, List.length_drop]; omega
  · simp

/-- Reading right behind a prefix gives what was appended. -/
theorem readBits_append (a b c : Bits) : readBits (a ++ (b ++ c)) a.length b.length = b := by
  rw [readBits_inside (by simp), List.drop_left, List.take_left]

theorem getU_lt (b : Bits) (o w : Nat) : getU b o w < 2 ^ w := by
  have h := uint_lt (readBits b o w)
  rwa [readBits_length] at h

theorem rawText_length (b : Bits) (o n : Nat) : (rawText b o n).length = n := by
  induction n generalizing o with
  | zero => rfl
  | succ n ih => simp [rawText, ih]

/-! ### Writes -/

theorem putU_ok {v : Int} {w : Nat} (h0 : 0 ≤ v) (h1 : v < 2 ^ w) : putU v w = .ok (bitsW w v.toNat) :=
  if_neg (by omega)

theorem putU_error {v : Int} {w : Nat} (h : v < 0 ∨ 2 ^ w ≤ v) : putU v w = .error .encUnsignedRange := if_pos h

theorem putS_ok {v : Int} {w : Nat} (h0 : -(2 ^ (w - 1)) ≤ v) (h1 : v < 2 ^ (w - 1)) :
    putS v w = .ok (bitsW w (v % 2 ^ w).toNat) := if_neg (by omega)

theorem putS_error {v : Int} {w : Nat} (h : v < -(2 ^ (w - 1)) ∨ 2 ^ (w - 1) ≤ v) : putS v w = .error .encSignedRange :=
  if_pos (by omega)

theorem putU_length {v : Int} {w : Nat} {b : Bits} (h : putU v w = .ok b) : b.length = w := by
  unfold putU at h
  split at h
  · cases h
  · cases h; simp

theorem putS_length {v : Int} {w : Nat} {b : Bits} (h : putS v w = .ok b) : b.length = w := by
  unfold putS at h
  split at h
  · cases h
  · cases h; simp

/-- From width 1 on the operations are those of the layouts; only the width 0 draws free values (log 30). -/
theorem fldGetu_of_pos {w : Nat} (h : w ≠ 0) (b : Bits) (o : Nat) : fldGetu b o w = getU b o w := if_neg h
theorem fldGets_of_pos {w : Nat} (h : w ≠ 0) (b : Bits) (o : Nat) : fldGets b o w = getS b o w := if_neg h
theorem fldPuts_of_pos {w : Nat} (h : w ≠ 0) (v : Int) : fldPuts v w = putS v w := if_neg h

/-- Everything `FLD.PUTS(v, 0)` can do. -/
theorem fldPuts_zero (v : Int) : fldPuts v 0 = .ok [] ∨ fldPuts v 0 = .error .encSignedRange := by
  cases h : Config.zeroWidthFits v <;> simp [fldPuts, h]

@[simp] theorem putT_length (text : Bytes) (n : Nat) : (putT text n).length = 6 * n := by
  induction n generalizing text with
  | zero => cases text <;> rfl
  | succ n ih => cases text <;> simp [putT, ih] <;> omega

/-- The first write decides: its fault, or its bits in front of the rest. -/
theorem appendAll_cons (r : Except Cause Bits) (rest : List (Except Cause Bits)) :
    appendAll (r :: rest) = match r with
      | .error c => .error c
      | .ok b => (appendAll rest).map (b ++ ·) := by
  cases r with
  | error c => rfl
  | ok b => simp only [appendAll]; cases appendAll rest <;> rfl

/-! ### Armor -/

@[simp] theorem armUnpack_nil : armUnpack [] = [] := rfl
@[simp] theorem armUnpack_cons (c : Byte) (p : Bytes) : armUnpack (c :: p) = bitsW 6 (armDec6 c).toNat ++ armUnpack p := rfl
@[simp] theorem armUnpack_append (p q : Bytes) : armUnpack (p ++ q) = armUnpack p ++ armUnpack q := List.flatMap_append

@[simp] theorem armUnpack_length (p : Bytes) : (armUnpack p).length = 6 * p.length := by
  induction p with
  | nil => rfl
  | cons c p ih => simp [ih]; omega

theorem fillStrips_six : fillStrips 6 = 0 := rfl

/-- The number of bits that are left after stripping (R180). -/
theorem armStrip_length (b : Bits) (fill : Fin 8) : (armStrip b fill).length = b.length - fillStrips fill := by
  unfold armStrip
  simp only
  split
  · next h => omega
  · split
    · simp only [List.length_nil]; omega
    · simp

theorem armPad6_length (b : Bits) : (armPad6 b).length % 6 = 0 := by
  simp only [armPad6, List.length_append, List.length_replicate]
  omega

end Sys2Proof.Machine
end

