-- ==== Sys2Proof/Laws/Decode.lean ====
section
/-! SUPPORT. Laws of the operands that a command presents in another form than its instruction: draws by their number, keys by
their id. -/

namespace Sys2Proof

/-! ### Draws -/

theorem SeqDraw.ofDigit_digit (d : SeqDraw) : SeqDraw.ofDigit d.digit = some d := by
  have hd : d.above.val < 9 := d.above.isLt
  have h : Config.seqLo ≤ d.digit ∧ d.digit ≤ Config.seqHi := by
    show 1 ≤ 1 + d.above.val ∧ 1 + d.above.val ≤ 9
    omega
  unfold SeqDraw.ofDigit
  rw [dif_pos h]
  congr 2
  exact Fin.ext (Nat.add_sub_cancel_left ..)

theorem SeqDraw.digit_of_ofDigit {n : Nat} {d : SeqDraw} (h : SeqDraw.ofDigit n = some d) : d.digit = n := by
  unfold SeqDraw.ofDigit at h
  split at h
  · next hn => cases h; exact Nat.add_sub_cancel' hn.1
  · cases h

/-- Everything `withDraw` can answer. -/
theorem withDraw_eq_ok {n : Nat} {f : SeqDraw → Instr} {i : Instr} (h : withDraw n f = .ok i) :
    ∃ d : SeqDraw, d.digit = n ∧ i = f d := by
  unfold withDraw at h
  split at h
  · next d hd => cases h; exact ⟨d, SeqDraw.digit_of_ofDigit hd, rfl⟩
  · cases h

@[simp] theorem withDraw_digit (d : SeqDraw) (f : SeqDraw → Instr) : withDraw d.digit f = .ok (f d) := by
  simp [withDraw, SeqDraw.ofDigit_digit]

/-! ### Keys -/

@[simp] theorem Key.ofId_id (id : Bytes) : (Key.ofId id).id = id := rfl
@[simp] theorem Key.ofId_wf (id : Bytes) : (Key.ofId id).wf = true := by simp [Key.ofId, Key.wf]

theorem Key.ofId_of_wf {k : Key} (h : k.wf = true) : Key.ofId k.id = k := by
  cases k
  simp_all [Key.ofId, Key.wf]

theorem Key.wf_of_keyError {k : Key} (h : keyError k = none) : k.wf = true := by
  unfold keyError at h
  split at h
  · assumption
  · cases h

@[simp] theorem keyError_ofId (id : Bytes) : keyError (Key.ofId id) = none := by simp [keyError]

end Sys2Proof
end

