-- ==== Sys2Proof/Laws/State.lean ====
section
/-! SUPPORT. Laws of State: for every update of State one lemma per field, true by `rfl`, so that no later proof unfolds a record
update; and the lemmas of the two ways an operation ends. -/

namespace Sys2Proof.Machine

variable (s : State)

@[simp] theorem State.withRt_rt (rt : List Entry) : (s.withRt rt).rt = rt := rfl
@[simp] theorem State.withRt_resp (rt : List Entry) : (s.withRt rt).resp = s.resp := rfl
@[simp] theorem State.withRt_tr (rt : List Entry) : (s.withRt rt).tr = s.tr := rfl
@[simp] theorem State.withRt_cfg (rt : List Entry) : (s.withRt rt).cfg = s.cfg := rfl
@[simp] theorem State.withRt_port (rt : List Entry) : (s.withRt rt).port = s.port := rfl
@[simp] theorem State.withRt_free (rt : List Entry) : (s.withRt rt).free = s.free := rfl

@[simp] theorem State.withResp_rt (r : Response) : (s.withResp r).rt = s.rt := rfl
@[simp] theorem State.withResp_resp (r : Response) : (s.withResp r).resp = r := rfl
@[simp] theorem State.withResp_tr (r : Response) : (s.withResp r).tr = s.tr := rfl
@[simp] theorem State.withResp_cfg (r : Response) : (s.withResp r).cfg = s.cfg := rfl
@[simp] theorem State.withResp_port (r : Response) : (s.withResp r).port = s.port := rfl
@[simp] theorem State.withResp_free (r : Response) : (s.withResp r).free = s.free := rfl

@[simp] theorem State.withTr_rt (tr : Transients) : (s.withTr tr).rt = s.rt := rfl
@[simp] theorem State.withTr_resp (tr : Transients) : (s.withTr tr).resp = s.resp := rfl
@[simp] theorem State.withTr_tr (tr : Transients) : (s.withTr tr).tr = tr := rfl
@[simp] theorem State.withTr_cfg (tr : Transients) : (s.withTr tr).cfg = s.cfg := rfl
@[simp] theorem State.withTr_port (tr : Transients) : (s.withTr tr).port = s.port := rfl
@[simp] theorem State.withTr_free (tr : Transients) : (s.withTr tr).free = s.free := rfl

@[simp] theorem State.withPort_rt (p : List Command) : (s.withPort p).rt = s.rt := rfl
@[simp] theorem State.withPort_resp (p : List Command) : (s.withPort p).resp = s.resp := rfl
@[simp] theorem State.withPort_tr (p : List Command) : (s.withPort p).tr = s.tr := rfl
@[simp] theorem State.withPort_cfg (p : List Command) : (s.withPort p).cfg = s.cfg := rfl
@[simp] theorem State.withPort_port (p : List Command) : (s.withPort p).port = p := rfl
@[simp] theorem State.withPort_free (p : List Command) : (s.withPort p).free = s.free := rfl

@[simp] theorem State.returns_rt (r : Ret) : (s.returns r).rt = s.rt := rfl
@[simp] theorem State.returns_resp (r : Ret) : (s.returns r).resp = s.resp := rfl
@[simp] theorem State.returns_tr (r : Ret) : (s.returns r).tr = { s.tr with ret := r } := rfl
@[simp] theorem State.returns_cfg (r : Ret) : (s.returns r).cfg = s.cfg := rfl
@[simp] theorem State.returns_port (r : Ret) : (s.returns r).port = s.port := rfl
@[simp] theorem State.returns_free (r : Ret) : (s.returns r).free = s.free := rfl

@[simp] theorem State.withBits_rt (b : Bits) : (s.withBits b).rt = s.rt := rfl
@[simp] theorem State.withBits_resp (b : Bits) : (s.withBits b).resp = s.resp := rfl
@[simp] theorem State.withBits_tr (b : Bits) : (s.withBits b).tr = { s.tr with bits := b } := rfl
@[simp] theorem State.withBits_cfg (b : Bits) : (s.withBits b).cfg = s.cfg := rfl
@[simp] theorem State.withBits_port (b : Bits) : (s.withBits b).port = s.port := rfl
@[simp] theorem State.withBits_free (b : Bits) : (s.withBits b).free = s.free := rfl

@[simp] theorem State.finish_rt : (s.finish).rt = s.rt := rfl
@[simp] theorem State.finish_resp : (s.finish).resp = s.resp := rfl
@[simp] theorem State.finish_tr : (s.finish).tr = Config.freeTransients s.free := rfl
@[simp] theorem State.finish_cfg : (s.finish).cfg = s.cfg := rfl
@[simp] theorem State.finish_port : (s.finish).port = s.port := rfl
@[simp] theorem State.finish_free : (s.finish).free = s.free + 1 := rfl

@[simp] theorem State.abort_rt (c : Cause) : (s.abort c).rt = s.rt := rfl
@[simp] theorem State.abort_resp (c : Cause) : (s.abort c).resp = Response.ofCause c := rfl
@[simp] theorem State.abort_tr (c : Cause) : (s.abort c).tr = Config.freeTransients s.free := rfl
@[simp] theorem State.abort_cfg (c : Cause) : (s.abort c).cfg = s.cfg := rfl
@[simp] theorem State.abort_port (c : Cause) : (s.abort c).port = s.port := rfl
@[simp] theorem State.abort_free (c : Cause) : (s.abort c).free = s.free + 1 := rfl

@[simp] theorem State.withFetchWord_port (nbits w : Nat) :
    (s.withFetchWord nbits w).port = tableCommand nbits w :: s.port := rfl
@[simp] theorem State.withFetchWord_rt (nbits w : Nat) : (s.withFetchWord nbits w).rt = s.rt := rfl
@[simp] theorem State.withFetchWord_resp (nbits w : Nat) : (s.withFetchWord nbits w).resp = s.resp := rfl
@[simp] theorem State.withFetchWord_tr (nbits w : Nat) : (s.withFetchWord nbits w).tr = s.tr := rfl
@[simp] theorem State.withFetchWord_cfg (nbits w : Nat) : (s.withFetchWord nbits w).cfg = s.cfg := rfl

/-! ### Updates that meet -/

@[simp] theorem State.withRt_withRt (a b : List Entry) : (s.withRt a).withRt b = s.withRt b := rfl
@[simp] theorem State.withResp_withResp (a b : Response) : (s.withResp a).withResp b = s.withResp b := rfl
@[simp] theorem State.withTr_withTr (a b : Transients) : (s.withTr a).withTr b = s.withTr b := rfl
@[simp] theorem State.withPort_withPort (a b : List Command) : (s.withPort a).withPort b = s.withPort b := rfl
@[simp] theorem State.withRt_self : s.withRt s.rt = s := rfl
@[simp] theorem State.withResp_self : s.withResp s.resp = s := rfl
@[simp] theorem State.withTr_self : s.withTr s.tr = s := rfl
@[simp] theorem State.withPort_self : s.withPort s.port = s := rfl
theorem State.withTr_withRt (rt : List Entry) (tr : Transients) : (s.withTr tr).withRt rt = (s.withRt rt).withTr tr := rfl
theorem State.withTr_withResp (r : Response) (tr : Transients) : (s.withTr tr).withResp r = (s.withResp r).withTr tr := rfl
theorem State.withResp_withRt (rt : List Entry) (r : Response) : (s.withResp r).withRt rt = (s.withRt rt).withResp r := rfl

/-- An operation that ends forgets the transient registers. -/
theorem State.abort_withTr (tr : Transients) (c : Cause) : (s.withTr tr).abort c = s.abort c := rfl
theorem State.abort_withBits (b : Bits) (c : Cause) : (s.withBits b).abort c = s.abort c := rfl

/-! ### Writing registers or ending without a result -/

section
variable {α : Type} (write : Transients → α → Transients)

@[simp] theorem State.writeOrAbort_ok (a : α) : s.writeOrAbort (.ok a) write = s.withTr (write s.tr a) := rfl
@[simp] theorem State.writeOrAbort_error (c : Cause) : s.writeOrAbort (.error c) write = s.abort c := rfl

/-- Everything `writeOrAbort` can do. -/
theorem State.writeOrAbort_cases (r : Except Cause α) :
    (∃ a, r = .ok a ∧ s.writeOrAbort r write = s.withTr (write s.tr a)) ∨ (∃ c, r = .error c ∧ s.writeOrAbort r write = s.abort c) := by
  cases r with
  | ok a => exact .inl ⟨a, rfl, rfl⟩
  | error c => exact .inr ⟨c, rfl, rfl⟩

@[simp] theorem State.writeOrAbort_rt (r : Except Cause α) : (s.writeOrAbort r write).rt = s.rt := by cases r <;> rfl
@[simp] theorem State.writeOrAbort_cfg (r : Except Cause α) : (s.writeOrAbort r write).cfg = s.cfg := by cases r <;> rfl
@[simp] theorem State.writeOrAbort_port (r : Except Cause α) : (s.writeOrAbort r write).port = s.port := by cases r <;> rfl
end

/-! ### Responses -/

@[simp] theorem Response.ofCause_kind (c : Cause) : (Response.ofCause c).kind = .none := rfl
@[simp] theorem Response.ofCause_cause (c : Cause) : (Response.ofCause c).cause = c := rfl
@[simp] theorem Response.ofCause_value (c : Cause) : (Response.ofCause c).value = .nothing := rfl

/-! ### The step -/

/-- Everything a step can do: idle, reject the command, or run the instruction the command decodes to. -/
theorem step_cases :
    (s.port = [] ∧ step s = .next s) ∨
    (∃ c rest e, s.port = c :: rest ∧ decode s.cfg c = .error e ∧ step s = .refused (.undecodable e)) ∨
    (∃ c rest i, s.port = c :: rest ∧ decode s.cfg c = .ok i ∧ step s = exec i (s.withPort rest)) := by
  cases hp : s.port with
  | nil => exact .inl ⟨rfl, by simp only [step, hp]⟩
  | cons c rest =>
    cases hd : decode s.cfg c with
    | error e => exact .inr (.inl ⟨c, rest, e, rfl, hd, by simp only [step, hp, hd]⟩)
    | ok i => exact .inr (.inr ⟨c, rest, i, rfl, hd, by simp only [step, hp, hd]⟩)

end Sys2Proof.Machine
end

