-- ==== Sys2Proof/Laws/Table.lean ====
section
/-! SUPPORT. Laws of the reassembly table: its two orders, reading back what was written, and that every table operation keeps the
canonical form. -/

namespace Sys2Proof.Machine

/-! ### The order of keys -/

theorem bytesLt_irrefl (a : Bytes) : bytesLt a a = false := by
  induction a with
  | nil => rfl
  | cons x xs ih => simp [bytesLt, ih]

theorem bytesLt_trans {a b c : Bytes} (hab : bytesLt a b = true) (hbc : bytesLt b c = true) : bytesLt a c = true := by
  induction a generalizing b c with
  | nil =>
    cases c with
    | nil => cases b <;> simp [bytesLt] at hbc
    | cons _ _ => rfl
  | cons x xs ih =>
    cases b with
    | nil => simp [bytesLt] at hab
    | cons y ys =>
      cases c with
      | nil => simp [bytesLt] at hbc
      | cons z zs =>
        simp only [bytesLt, Bool.or_eq_true, Bool.and_eq_true, decide_eq_true_eq] at *
        rcases hab with h | ⟨rfl, h⟩ <;> rcases hbc with h' | ⟨rfl, h'⟩
        · exact .inl (by omega)
        · exact .inl h
        · exact .inl h'
        · exact .inr ⟨rfl, ih h h'⟩

theorem bytesLt_total (a b : Bytes) : bytesLt a b = true ∨ a = b ∨ bytesLt b a = true := by
  induction a generalizing b with
  | nil => cases b <;> simp [bytesLt]
  | cons x xs ih =>
    cases b with
    | nil => simp [bytesLt]
    | cons y ys =>
      simp only [bytesLt, Bool.or_eq_true, Bool.and_eq_true, decide_eq_true_eq, List.cons.injEq]
      rcases Nat.lt_trichotomy x.toNat y.toNat with h | h | h
      · exact .inl (.inl h)
      · have hxy := BitVec.eq_of_toNat_eq h
        rcases ih ys with h' | h' | h'
        · exact .inl (.inr ⟨hxy, h'⟩)
        · exact .inr (.inl ⟨hxy, h'⟩)
        · exact .inr (.inr (.inr ⟨hxy.symm, h'⟩))
      · exact .inr (.inr (.inl h))

theorem keyLt_irrefl (k : Key) : keyLt k k = false := by simp [keyLt, bytesLt_irrefl]

theorem keyLt_trans {a b c : Key} (hab : keyLt a b = true) (hbc : keyLt b c = true) : keyLt a c = true := by
  simp only [keyLt, Bool.or_eq_true, Bool.and_eq_true, Bool.not_eq_true', beq_iff_eq] at *
  rcases hab with ⟨h1, h2⟩ | ⟨h1, h2⟩ <;> rcases hbc with ⟨h3, h4⟩ | ⟨h3, h4⟩
  · simp [h2] at h3
  · exact .inl ⟨h1, h3 ▸ h2⟩
  · exact .inl ⟨h1 ▸ h3, h4⟩
  · exact .inr ⟨h1.trans h3, bytesLt_trans h2 h4⟩

theorem keyLt_total (a b : Key) : keyLt a b = true ∨ a = b ∨ keyLt b a = true := by
  obtain ⟨ah, ai⟩ := a
  obtain ⟨bh, bi⟩ := b
  have h := bytesLt_total ai bi
  cases ah <;> cases bh <;> simp_all [keyLt]

/-! ### The canonical forms as pairwise order -/

theorem keysRising_iff (rt : List Entry) : keysRising rt = true ↔ rt.Pairwise (fun a b => keyLt a.key b.key = true) := by
  induction rt with
  | nil => simp [keysRising]
  | cons a rest ih =>
    cases rest with
    | nil => simp [keysRising]
    | cons b rest =>
      rw [keysRising, Bool.and_eq_true, ih, List.pairwise_cons (a := a)]
      constructor
      · rintro ⟨h, hp⟩
        refine ⟨fun c hc => ?_, hp⟩
        rcases List.mem_cons.1 hc with rfl | hc
        · exact h
        · exact keyLt_trans h ((List.pairwise_cons.1 hp).1 c hc)
      · rintro ⟨h, hp⟩
        exact ⟨h b (by simp), hp⟩

theorem partsRising_iff (ps : List (Nat × Bytes)) : partsRising ps = true ↔ ps.Pairwise (fun a b => a.1 < b.1) := by
  induction ps with
  | nil => simp [partsRising]
  | cons a rest ih =>
    cases rest with
    | nil => simp [partsRising]
    | cons b rest =>
      rw [partsRising, Bool.and_eq_true, ih, List.pairwise_cons (a := a), decide_eq_true_eq]
      constructor
      · rintro ⟨h, hp⟩
        refine ⟨fun c hc => ?_, hp⟩
        rcases List.mem_cons.1 hc with rfl | hc
        · exact h
        · exact Nat.lt_trans h ((List.pairwise_cons.1 hp).1 c hc)
      · rintro ⟨h, hp⟩
        exact ⟨h b (by simp), hp⟩

theorem tableWf_iff (rt : List Entry) : tableWf rt = true ↔
    rt.Pairwise (fun a b => keyLt a.key b.key = true) ∧ ∀ e ∈ rt, e.parts.Pairwise (fun a b => a.1 < b.1) := by
  simp only [tableWf, Bool.and_eq_true, keysRising_iff, List.all_eq_true, partsRising_iff]

/-! ### Parts -/

theorem putPart_mem {ps : List (Nat × Bytes)} {i : Nat} {frag : Bytes} {p : Nat × Bytes} (h : p ∈ putPart ps i frag) :
    p = (i, frag) ∨ p ∈ ps := by
  induction ps with
  | nil => exact .inl (by simpa [putPart] using h)
  | cons q rest ih =>
    simp only [putPart] at h
    split at h
    · rcases List.mem_cons.1 h with h | h
      · exact .inl h
      · exact .inr (List.mem_cons_of_mem _ h)
    · split at h
      · exact List.mem_cons.1 h
      · rcases List.mem_cons.1 h with rfl | h
        · exact .inr (by simp)
        · exact (ih h).imp_right (List.mem_cons_of_mem _)

/-- Storing a part keeps the indices rising. -/
theorem putPart_rising {ps : List (Nat × Bytes)} (i : Nat) (frag : Bytes) (h : partsRising ps = true) :
    partsRising (putPart ps i frag) = true := by
  rw [partsRising_iff] at *
  induction ps with
  | nil => simp [putPart]
  | cons p rest ih =>
    obtain ⟨hp, hr⟩ := List.pairwise_cons.1 h
    simp only [putPart]
    split
    · next he => exact List.pairwise_cons.2 ⟨fun q hq => he ▸ hp q hq, hr⟩
    · split
      · next hlt =>
        refine List.pairwise_cons.2 ⟨fun q hq => ?_, h⟩
        rcases List.mem_cons.1 hq with rfl | hq
        · exact hlt
        · exact Nat.lt_trans hlt (hp q hq)
      · next hne hge =>
        refine List.pairwise_cons.2 ⟨fun q hq => ?_, ih hr⟩
        rcases putPart_mem hq with rfl | hq
        · show p.1 < i
          omega
        · exact hp q hq

/-- A part just stored is the one read back. -/
@[simp] theorem partAt_putPart_same (ps : List (Nat × Bytes)) (i : Nat) (frag : Bytes) :
    partAt (putPart ps i frag) i = some frag := by
  induction ps with
  | nil => simp [putPart, partAt]
  | cons p rest ih =>
    simp only [putPart]
    split
    · simp [partAt]
    · split <;> simp [partAt, *]

/-- Storing a part leaves every other index alone. -/
theorem partAt_putPart_other (ps : List (Nat × Bytes)) {i j : Nat} (frag : Bytes) (h : j ≠ i) :
    partAt (putPart ps i frag) j = partAt ps j := by
  induction ps with
  | nil => simp [putPart, partAt, Ne.symm h]
  | cons p rest ih =>
    simp only [putPart]
    split
    · next he => simp [partAt, he, Ne.symm h]
    · split
      · simp [partAt, Ne.symm h]
      · simp only [partAt, ih]

/-- The count grows by at most one: an index already there counts once (R138). -/
theorem putPart_length (ps : List (Nat × Bytes)) (i : Nat) (frag : Bytes) :
    ps.length ≤ (putPart ps i frag).length ∧ (putPart ps i frag).length ≤ ps.length + 1 := by
  induction ps with
  | nil => simp [putPart]
  | cons p rest ih =>
    simp only [putPart]
    split
    · simp
    · split
      · simp
      · simp only [List.length_cons]
        omega

/-! ### Entries -/

@[simp] theorem storePart_key (e : Entry) (i : Nat) (frag : Bytes) : (storePart e i frag).key = e.key := rfl
@[simp] theorem storePart_total (e : Entry) (i : Nat) (frag : Bytes) : (storePart e i frag).total = e.total := rfl
@[simp] theorem storePart_created (e : Entry) (i : Nat) (frag : Bytes) : (storePart e i frag).created = e.created := rfl
@[simp] theorem storePart_fill (e : Entry) (i : Nat) (frag : Bytes) : (storePart e i frag).fill = e.fill := rfl
@[simp] theorem storePart_parts (e : Entry) (i : Nat) (frag : Bytes) :
    (storePart e i frag).parts = putPart e.parts i frag := rfl
@[simp] theorem storeFill_key (e : Entry) (i : Nat) (f : Fin 8) : (storeFill e i f).key = e.key := by
  unfold storeFill; split <;> rfl
@[simp] theorem storeFill_total (e : Entry) (i : Nat) (f : Fin 8) : (storeFill e i f).total = e.total := by
  unfold storeFill; split <;> rfl
@[simp] theorem storeFill_created (e : Entry) (i : Nat) (f : Fin 8) : (storeFill e i f).created = e.created := by
  unfold storeFill; split <;> rfl
@[simp] theorem storeFill_parts (e : Entry) (i : Nat) (f : Fin 8) : (storeFill e i f).parts = e.parts := by
  unfold storeFill; split <;> rfl
@[simp] theorem newEntry_key (k : Key) (n : Nat) (t : Time) : (newEntry k n t).key = k := rfl
@[simp] theorem newEntry_total (k : Key) (n : Nat) (t : Time) : (newEntry k n t).total = n := rfl
@[simp] theorem newEntry_parts (k : Key) (n : Nat) (t : Time) : (newEntry k n t).parts = [] := rfl
@[simp] theorem newEntry_created (k : Key) (n : Nat) (t : Time) : (newEntry k n t).created = t := rfl

/-! ### Reading and writing the table -/

theorem tableGet_key {rt : List Entry} {k : Key} {e : Entry} (h : tableGet rt k = some e) : e.key = k ∧ e ∈ rt := by
  induction rt with
  | nil => simp [tableGet] at h
  | cons x rest ih =>
    simp only [tableGet] at h
    split at h
    · next hk => cases h; exact ⟨hk, by simp⟩
    · exact (ih h).imp_right (List.mem_cons_of_mem _)

theorem tableGet_none_iff (rt : List Entry) (k : Key) : tableGet rt k = none ↔ ∀ e ∈ rt, e.key ≠ k := by
  induction rt with
  | nil => simp [tableGet]
  | cons x rest ih =>
    simp only [tableGet, List.mem_cons, forall_eq_or_imp]
    split
    · next hk => simp [hk]
    · next hk => simp [ih, hk]

theorem tablePut_mem {rt : List Entry} {e x : Entry} (h : x ∈ tablePut rt e) : x = e ∨ x ∈ rt := by
  induction rt with
  | nil => exact .inl (by simpa [tablePut] using h)
  | cons y rest ih =>
    simp only [tablePut] at h
    split at h
    · rcases List.mem_cons.1 h with h | h
      · exact .inl h
      · exact .inr (List.mem_cons_of_mem _ h)
    · split at h
      · exact List.mem_cons.1 h
      · rcases List.mem_cons.1 h with rfl | h
        · exact .inr (by simp)
        · exact (ih h).imp_right (List.mem_cons_of_mem _)

/-- An entry just written is the one read back. -/
@[simp] theorem tableGet_tablePut_same (rt : List Entry) (e : Entry) : tableGet (tablePut rt e) e.key = some e := by
  induction rt with
  | nil => simp [tablePut, tableGet]
  | cons x rest ih =>
    simp only [tablePut]
    split
    · simp [tableGet]
    · split <;> simp [tableGet, *]

/-- Writing an entry leaves every other key alone. -/
theorem tableGet_tablePut_other (rt : List Entry) (e : Entry) {k : Key} (h : k ≠ e.key) :
    tableGet (tablePut rt e) k = tableGet rt k := by
  induction rt with
  | nil => simp [tablePut, tableGet, Ne.symm h]
  | cons x rest ih =>
    simp only [tablePut]
    split
    · next he => simp [tableGet, he, Ne.symm h]
    · split
      · simp [tableGet, Ne.symm h]
      · simp only [tableGet, ih]

@[simp] theorem tableGet_tableRemove_same (rt : List Entry) (k : Key) : tableGet (tableRemove rt k) k = none := by
  rw [tableGet_none_iff]
  intro e he
  exact of_decide_eq_true (List.mem_filter.1 he).2

/-- Removing an entry leaves every other key alone. -/
theorem tableGet_tableRemove_other (rt : List Entry) {j k : Key} (h : j ≠ k) :
    tableGet (tableRemove rt k) j = tableGet rt j := by
  induction rt with
  | nil => rfl
  | cons x rest ih =>
    unfold tableRemove at *
    by_cases hk : x.key = k
    · rw [List.filter_cons_of_neg (by simp [hk]), ih, tableGet, if_neg (by rw [hk]; exact Ne.symm h)]
    · rw [List.filter_cons_of_pos (by simp [hk]), tableGet, tableGet, ih]

/-! ### The canonical form is kept -/

/-- Writing an entry whose parts are in order keeps the canonical form. -/
theorem tableWf_tablePut {rt : List Entry} {e : Entry} (h : tableWf rt = true) (he : partsRising e.parts = true) :
    tableWf (tablePut rt e) = true := by
  rw [tableWf_iff] at *
  rw [partsRising_iff] at he
  refine ⟨?_, fun x hx => ?_⟩
  · obtain ⟨hk, -⟩ := h
    induction rt with
    | nil => simp [tablePut]
    | cons x rest ih =>
      obtain ⟨hx, hr⟩ := List.pairwise_cons.1 hk
      simp only [tablePut]
      split
      · next heq => exact List.pairwise_cons.2 ⟨fun q hq => heq ▸ hx q hq, hr⟩
      · split
        · next hlt =>
          refine List.pairwise_cons.2 ⟨fun q hq => ?_, hk⟩
          rcases List.mem_cons.1 hq with rfl | hq
          · exact hlt
          · exact keyLt_trans hlt (hx q hq)
        · next hne hge =>
          refine List.pairwise_cons.2 ⟨fun q hq => ?_, ih hr⟩
          rcases tablePut_mem hq with rfl | hq
          · rcases keyLt_total x.key q.key with h' | h' | h'
            · exact h'
            · exact absurd h' hne
            · exact absurd h' hge
          · exact hx q hq
  · rcases tablePut_mem hx with rfl | hx
    · exact he
    · exact h.2 x hx

/-- Keeping some of the entries keeps the canonical form. -/
theorem tableWf_filter {rt : List Entry} (p : Entry → Bool) (h : tableWf rt = true) : tableWf (rt.filter p) = true := by
  rw [tableWf_iff] at *
  exact ⟨h.1.filter p, fun e he => h.2 e (List.mem_filter.1 he).1⟩

theorem tableWf_tableRemove {rt : List Entry} (k : Key) (h : tableWf rt = true) : tableWf (tableRemove rt k) = true :=
  tableWf_filter _ h

theorem tableWf_expireTable {rt : List Entry} (t : Time) (h : tableWf rt = true) : tableWf (expireTable rt t) = true :=
  tableWf_filter _ h

theorem tableWf_sweepTable {rt : List Entry} (t : Time) (h : tableWf rt = true) : tableWf (sweepTable rt t) = true :=
  tableWf_filter _ h

theorem tableWf_parts {rt : List Entry} {k : Key} {e : Entry} (h : tableWf rt = true) (hg : tableGet rt k = some e) :
    partsRising e.parts = true :=
  (partsRising_iff _).2 (((tableWf_iff rt).1 h).2 e (tableGet_key hg).2)

/-- Reset's table is in canonical form. -/
theorem tableWf_reset : tableWf State.reset.rt = true := rfl

/-! ### Sizes -/

theorem tablePut_length_present {rt : List Entry} {e x : Entry} (hw : tableWf rt = true)
    (hg : tableGet rt e.key = some x) : (tablePut rt e).length = rt.length := by
  induction rt with
  | nil => simp [tableGet] at hg
  | cons y rest ih =>
    rw [tableWf_iff, List.pairwise_cons] at hw
    obtain ⟨⟨hy, hr⟩, hp⟩ := hw
    simp only [tableGet] at hg
    simp only [tablePut]
    by_cases hk : y.key = e.key
    · simp [hk]
    · rw [if_neg hk] at hg
      have hm := (tableGet_key hg)
      have hlt : keyLt y.key e.key = true := hm.1 ▸ hy x hm.2
      have hnot : ¬ keyLt e.key y.key = true := by
        intro h
        have := keyLt_trans hlt h
        simp [keyLt_irrefl] at this
      rw [if_neg hk, if_neg hnot, List.length_cons, List.length_cons,
        ih ((tableWf_iff rest).2 ⟨hr, fun z hz => hp z (List.mem_cons_of_mem _ hz)⟩) hg]

theorem tablePut_length_absent {rt : List Entry} {e : Entry} (hg : tableGet rt e.key = none) :
    (tablePut rt e).length = rt.length + 1 := by
  induction rt with
  | nil => rfl
  | cons y rest ih =>
    simp only [tableGet] at hg
    split at hg
    · cases hg
    · next hk =>
      simp only [tablePut]
      rw [if_neg hk]
      split
      · rfl
      · rw [List.length_cons, ih hg, List.length_cons]

theorem tableRemove_length (rt : List Entry) (k : Key) : (tableRemove rt k).length ≤ rt.length := List.length_filter_le _ _
theorem expireTable_length (rt : List Entry) (t : Time) : (expireTable rt t).length ≤ rt.length := List.length_filter_le _ _
theorem sweepTable_length (rt : List Entry) (t : Time) : (sweepTable rt t).length ≤ rt.length := List.length_filter_le _ _

end Sys2Proof.Machine
end

