-- ==== Sys2Proof/Laws/Ops.lean ====
section
/-! SUPPORT. Laws of the shared operations: for each, one lemma that says everything it can do, and what it leaves unchanged. -/

namespace Sys2Proof.Machine

variable (s : State)

/-! ### The type dispatch -/

/-- Everything the choice of a layout can answer (R197). -/
theorem layoutOf_cases (ty len : Nat) :
    (ty = 5 ∧ 424 ≤ len ∧ layoutOf ty len = .ok .static) ∨
    ((ty = 1 ∨ ty = 2 ∨ ty = 3) ∧ 168 ≤ len ∧ layoutOf ty len = .ok .position) ∨
    (ty = 5 ∧ len < 424 ∧ layoutOf ty len = .error .dropShort) ∨
    ((ty = 1 ∨ ty = 2 ∨ ty = 3) ∧ len < 168 ∧ layoutOf ty len = .error .dropShort) ∨
    (ty ≠ 5 ∧ ty ≠ 1 ∧ ty ≠ 2 ∧ ty ≠ 3 ∧ layoutOf ty len = .error .dropType) := by
  unfold layoutOf
  simp only [Config.statMinBits, Config.posMinBits]
  by_cases h5 : ty = 5
  · by_cases hl : len < 424
    · simp [h5, hl]
    · simp [h5, hl]; omega
  · by_cases h3 : ty = 1 ∨ ty = 2 ∨ ty = 3
    · by_cases hl : len < 168
      · simp [h5, h3, hl]
      · simp [h5, h3, hl]; omega
    · simp [h5, h3]; omega

/-- Everything the type dispatch can do to the machine: write a record and answer with it, or take a drop. -/
theorem fldTypeInto_cases :
    (fldTypeOf s.tr.bits = .ok .position ∧
      fldTypeInto s = (s.withTr { s.tr with pos := posDecode s.tr.bits s.tr.chan }).withResp
        ⟨.pos, .ok, .pos (posDecode s.tr.bits s.tr.chan)⟩) ∨
    (fldTypeOf s.tr.bits = .ok .static ∧
      fldTypeInto s = (s.withTr { s.tr with stat := statDecode s.tr.bits s.tr.chan }).withResp
        ⟨.stat, .ok, .stat (statDecode s.tr.bits s.tr.chan)⟩) ∨
    (∃ c, fldTypeOf s.tr.bits = .error c ∧ fldTypeInto s = s.abort c) := by
  unfold fldTypeInto
  rcases h : fldTypeOf s.tr.bits with c | l
  · exact .inr (.inr ⟨c, rfl, rfl⟩)
  · cases l
    · exact .inl ⟨rfl, rfl⟩
    · exact .inr (.inl ⟨rfl, rfl⟩)

@[simp] theorem fldTypeInto_rt : (fldTypeInto s).rt = s.rt := by
  rcases fldTypeInto_cases s with ⟨-, h⟩ | ⟨-, h⟩ | ⟨c, -, h⟩ <;> rw [h] <;> rfl

@[simp] theorem fldTypeInto_cfg : (fldTypeInto s).cfg = s.cfg := by
  rcases fldTypeInto_cases s with ⟨-, h⟩ | ⟨-, h⟩ | ⟨c, -, h⟩ <;> rw [h] <;> rfl

@[simp] theorem fldTypeInto_port : (fldTypeInto s).port = s.port := by
  rcases fldTypeInto_cases s with ⟨-, h⟩ | ⟨-, h⟩ | ⟨c, -, h⟩ <;> rw [h] <;> rfl

@[simp] theorem decodePayloadInto_rt : (decodePayloadInto s).rt = s.rt := fldTypeInto_rt _
@[simp] theorem decodePayloadInto_cfg : (decodePayloadInto s).cfg = s.cfg := fldTypeInto_cfg _
@[simp] theorem decodePayloadInto_port : (decodePayloadInto s).port = s.port := fldTypeInto_port _

/-- The common tail answers what `payloadResponse` says of the registers. -/
theorem decodePayloadInto_resp : (decodePayloadInto s).resp = payloadResponse s.tr.payload s.tr.fill s.tr.chan := by
  unfold decodePayloadInto payloadResponse
  rcases fldTypeInto_cases (s.withBits (armDecode s.tr.payload s.tr.fill)) with ⟨h, e⟩ | ⟨h, e⟩ | ⟨c, h, e⟩ <;>
    simp only [State.withBits_tr] at h <;> rw [e] <;> simp only [h] <;> rfl

/-! ### The reassembler -/

/-- Everything the completion test can answer (R139, R140). -/
theorem rsmComplete_cases (rt : List Entry) (e : Entry) :
    (partCount e ≠ e.total ∧ rsmComplete rt e = (rt, .buffered)) ∨
    (partCount e = e.total ∧ partsComplete e = true ∧
      rsmComplete rt e = (tableRemove rt e.key, .joined (joinParts e) e.fill)) ∨
    (partCount e = e.total ∧ partsComplete e = false ∧ rsmComplete rt e = (tableRemove rt e.key, .drop .dropIncomplete)) := by
  unfold rsmComplete rsmCheck
  by_cases hc : partCount e = e.total
  · cases hp : partsComplete e <;> simp [hc]
  · simp [hc]

/-- Everything the reassembler step can do to the table: refuse a new key, or store into the entry of the key and test it. -/
theorem rsmStep_cases (cfg : Config.Params) (rt : List Entry) (seq : Bytes) (total part : Nat) (payload : Bytes) (fill : Fin 8)
    (t : Time) :
    (tableGet rt (rsmKey seq) = none ∧ cfg.nEntries ≤ rt.length ∧
      rsmStep cfg rt seq total part payload fill t = (rt, .drop .dropCapacity)) ∨
    (∃ e, (tableGet rt (rsmKey seq) = some e ∨
        (tableGet rt (rsmKey seq) = none ∧ rt.length < cfg.nEntries ∧ e = newEntry (rsmKey seq) total t)) ∧
      rsmStep cfg rt seq total part payload fill t =
        rsmComplete (tablePut rt (storeFill (storePart e part payload) part fill)) (storeFill (storePart e part payload) part fill)) := by
  unfold rsmStep
  rcases h : tableGet rt (rsmKey seq) with _ | e
  · by_cases hc : cfg.nEntries ≤ rt.length
    · exact .inl ⟨rfl, hc, by simp [h, hc]⟩
    · exact .inr ⟨newEntry (rsmKey seq) total t, .inr ⟨rfl, by omega, rfl⟩, by simp [h, hc]⟩
  · exact .inr ⟨e, .inl rfl, by simp [h]⟩

/-- Everything the tail of the reassembler can do. -/
theorem rsmTail_rt (o : RsmOut) : (rsmTail s o).rt = s.rt := by cases o <;> simp [rsmTail]
theorem rsmTail_cfg (o : RsmOut) : (rsmTail s o).cfg = s.cfg := by cases o <;> simp [rsmTail]
theorem rsmTail_port (o : RsmOut) : (rsmTail s o).port = s.port := by cases o <;> simp [rsmTail]

@[simp] theorem rsmInto_rt (t : Time) :
    (rsmInto s t).rt = (rsmStep s.cfg s.rt s.tr.seq s.tr.total s.tr.part s.tr.payload s.tr.fill t).1 := by
  simp [rsmInto, rsmTail_rt]

@[simp] theorem rsmInto_cfg (t : Time) : (rsmInto s t).cfg = s.cfg := by simp [rsmInto, rsmTail_cfg]
@[simp] theorem rsmInto_port (t : Time) : (rsmInto s t).port = s.port := by simp [rsmInto, rsmTail_port]

/-- The keys that sentences make are keys (R23). -/
theorem rsmKey_wf (seq : Bytes) : (rsmKey seq).wf = true := by
  cases seq <;> simp [rsmKey, Key.wf]

/-- The reassembler step keeps the canonical form of the table. -/
theorem tableWf_rsmStep (cfg : Config.Params) {rt : List Entry} (seq : Bytes) (total part : Nat) (payload : Bytes) (fill : Fin 8)
    (t : Time) (h : tableWf rt = true) : tableWf (rsmStep cfg rt seq total part payload fill t).1 = true := by
  rcases rsmStep_cases cfg rt seq total part payload fill t with ⟨-, -, e⟩ | ⟨e, he, hs⟩
  · rw [e]; exact h
  · have hp : partsRising e.parts = true := by
      rcases he with he | ⟨-, -, rfl⟩
      · exact tableWf_parts h he
      · rfl
    have hw := tableWf_tablePut h (e := storeFill (storePart e part payload) part fill)
      (by simpa using putPart_rising part payload hp)
    rw [hs]
    rcases rsmComplete_cases (tablePut rt (storeFill (storePart e part payload) part fill))
      (storeFill (storePart e part payload) part fill) with ⟨-, e'⟩ | ⟨-, -, e'⟩ | ⟨-, -, e'⟩ <;> rw [e']
    · exact hw
    · exact tableWf_tableRemove _ hw
    · exact tableWf_tableRemove _ hw

/-! ### The attempt of a DECODE, and the encodes -/

/-- Everything the attempt of a DECODE can do. -/
theorem decodeAttempt_cases (cfg : Config.Params) (rt : List Entry) (line : Bytes) (t : Time) :
    (∃ c, parseLine cfg line = .error c ∧ decodeAttempt cfg rt line t = (rt, Response.ofCause c)) ∨
    (∃ p, parseLine cfg line = .ok p ∧ p.total = 1 ∧
      decodeAttempt cfg rt line t = (rt, payloadResponse p.payload p.fill p.chan)) ∨
    (∃ p, parseLine cfg line = .ok p ∧ p.total ≠ 1 ∧
      (decodeAttempt cfg rt line t).1 = (rsmStep cfg rt p.seq p.total p.part p.payload p.fill t).1 ∧
      (decodeAttempt cfg rt line t).2 = match (rsmStep cfg rt p.seq p.total p.part p.payload p.fill t).2 with
        | .buffered => ⟨.none, .buffered, .nothing⟩
        | .drop c => Response.ofCause c
        | .joined payload fill => payloadResponse payload fill p.chan) := by
  unfold decodeAttempt
  rcases hp : parseLine cfg line with c | p
  · exact .inl ⟨c, rfl, rfl⟩
  · by_cases h1 : p.total = 1
    · exact .inr (.inl ⟨p, rfl, h1, by simp [h1]⟩)
    · refine .inr (.inr ⟨p, rfl, h1, ?_⟩)
      rcases hr : (rsmStep cfg rt p.seq p.total p.part p.payload p.fill t).2 with _ | c | ⟨pl, f⟩ <;> simp [h1, hr]

/-- The attempt of a DECODE keeps the canonical form of the table. -/
theorem tableWf_decodeAttempt (cfg : Config.Params) {rt : List Entry} (line : Bytes) (t : Time) (h : tableWf rt = true) :
    tableWf (decodeAttempt cfg rt line t).1 = true := by
  rcases decodeAttempt_cases cfg rt line t with ⟨c, -, e⟩ | ⟨p, -, -, e⟩ | ⟨p, -, -, e, -⟩
  · rw [e]; exact h
  · rw [e]; exact h
  · rw [e]; exact tableWf_rsmStep _ _ _ _ _ _ _ h

/-- Everything an encode can do: take a fault, or answer with its lines. -/
theorem encodeOperation_cases (packed : Except Cause Bits) (chan : Bytes) (d : SeqDraw) :
    (∃ c, encodeOperation s packed chan d = s.abort c) ∨
    (∃ b lines, packed = .ok b ∧ emtLines b chan d = .ok lines ∧
      encodeOperation s packed chan d = (s.withResp ⟨.lines, .ok, .lines lines⟩).finish) := by
  unfold encodeOperation
  rcases packed with c | b
  · exact .inl ⟨c, rfl⟩
  · rcases h : emtLines b chan d with c | lines
    · exact .inl ⟨c, by simp [h]⟩
    · exact .inr ⟨b, lines, rfl, h, by simp [h]⟩

@[simp] theorem encodeOperation_rt (packed : Except Cause Bits) (chan : Bytes) (d : SeqDraw) :
    (encodeOperation s packed chan d).rt = s.rt := by
  rcases encodeOperation_cases s packed chan d with ⟨c, h⟩ | ⟨b, l, -, -, h⟩ <;> rw [h] <;> rfl

@[simp] theorem encodeOperation_cfg (packed : Except Cause Bits) (chan : Bytes) (d : SeqDraw) :
    (encodeOperation s packed chan d).cfg = s.cfg := by
  rcases encodeOperation_cases s packed chan d with ⟨c, h⟩ | ⟨b, l, -, -, h⟩ <;> rw [h] <;> rfl

@[simp] theorem encodeOperation_port (packed : Except Cause Bits) (chan : Bytes) (d : SeqDraw) :
    (encodeOperation s packed chan d).port = s.port := by
  rcases encodeOperation_cases s packed chan d with ⟨c, h⟩ | ⟨b, l, -, -, h⟩ <;> rw [h] <;> rfl

/-! ### Rows -/

@[simp] theorem armorChar_rx (c : Byte) (v : Nat) : armorChar c v .rx s = s.withBits (s.tr.bits ++ bitsW 6 v) := rfl
@[simp] theorem armorChar_tx (c : Byte) (v : Nat) :
    armorChar c v .tx s = s.withTr { s.tr with acc := s.tr.acc ++ [c] } := rfl
@[simp] theorem textGroup_rx (v : Nat) (c : Byte) :
    textGroup v c .rx s = s.withTr { s.tr with acc := s.tr.acc ++ [c] } := rfl
@[simp] theorem textGroup_tx (v : Nat) (c : Byte) : textGroup v c .tx s = s.withBits (s.tr.bits ++ bitsW 6 v) := rfl

/-- Everything a message-type row can do in receiving. -/
theorem receiveType_cases (ty : Nat) (rest : Bits) :
    (∃ l, layoutOf ty (6 + rest.length) = .ok l ∧
      receiveType ty rest s = decodeLayout (s.withBits (bitsW 6 ty ++ rest)) l) ∨
    (∃ c, layoutOf ty (6 + rest.length) = .error c ∧ receiveType ty rest s = s.abort c) := by
  unfold receiveType
  simp only [Config.typeW]
  rcases h : layoutOf ty (6 + rest.length) with c | l
  · exact .inr ⟨c, rfl, rfl⟩
  · exact .inl ⟨l, rfl, rfl⟩

theorem decodeLayout_rt (l : Layout) : (decodeLayout s l).rt = s.rt := by cases l <;> rfl

@[simp] theorem receiveType_rt (ty : Nat) (rest : Bits) : (receiveType ty rest s).rt = s.rt := by
  rcases receiveType_cases s ty rest with ⟨l, -, h⟩ | ⟨c, -, h⟩ <;> rw [h]
  · exact decodeLayout_rt _ _
  · rfl

@[simp] theorem positionType_rt (ty : Nat) (u : PosUse) : (positionType ty u s).rt = s.rt := by
  cases u <;> simp [positionType, posEncodeInto]

@[simp] theorem staticType_rt (u : StatUse) : (staticType u s).rt = s.rt := by
  cases u <;> simp [staticType, statEncodeInto]

end Sys2Proof.Machine
end

