-- ==== Sys2Proof/Laws/PerInstr.lean ====
section
/-! SUPPORT. Laws per instruction: every instruction is encoded with a code that the opcode table has. -/

namespace Sys2Proof.Laws

/-- The encoder never writes a code that no row of the opcode table has. -/
def RowCode.Statement (i : Instr) : Prop := ∀ w, (encode i).code ≠ .unassigned w

theorem RowCode.nop : RowCode.Statement .nop := fun _ => nofun
theorem RowCode.decode (line : Bytes) (t : Time) : RowCode.Statement (.decode line t) := fun _ => nofun
theorem RowCode.encpos (op : PosOperand) (d : SeqDraw) : RowCode.Statement (.encpos op d) := fun _ => nofun
theorem RowCode.encstat (op : StatOperand) (d : SeqDraw) : RowCode.Statement (.encstat op d) := fun _ => nofun
theorem RowCode.sweep (t : Time) : RowCode.Statement (.sweep t) := fun _ => nofun
theorem RowCode.reserved101 : RowCode.Statement .reserved101 := fun _ => nofun
theorem RowCode.reserved110 : RowCode.Statement .reserved110 := fun _ => nofun
theorem RowCode.reserved111 : RowCode.Statement .reserved111 := fun _ => nofun
theorem RowCode.aivdm (rest : Bytes) : RowCode.Statement (.aivdm rest) := fun _ => nofun
theorem RowCode.aivdo (rest : Bytes) : RowCode.Statement (.aivdo rest) := fun _ => nofun
theorem RowCode.msgtype0 (u : PosUse) : RowCode.Statement (.msgtype0 u) := fun _ => nofun
theorem RowCode.msgtype1 (u : PosUse) : RowCode.Statement (.msgtype1 u) := fun _ => nofun
theorem RowCode.msgtype2 (u : PosUse) : RowCode.Statement (.msgtype2 u) := fun _ => nofun
theorem RowCode.msgtype3 (u : PosUse) : RowCode.Statement (.msgtype3 u) := fun _ => nofun
theorem RowCode.msgtype4 (u : PosUse) : RowCode.Statement (.msgtype4 u) := fun _ => nofun
theorem RowCode.msgtype5 (u : StatUse) : RowCode.Statement (.msgtype5 u) := fun _ => nofun
theorem RowCode.msgtype6 (u : PosUse) : RowCode.Statement (.msgtype6 u) := fun _ => nofun
theorem RowCode.msgtype7 (u : PosUse) : RowCode.Statement (.msgtype7 u) := fun _ => nofun
theorem RowCode.msgtype8 (u : PosUse) : RowCode.Statement (.msgtype8 u) := fun _ => nofun
theorem RowCode.msgtype9 (u : PosUse) : RowCode.Statement (.msgtype9 u) := fun _ => nofun
theorem RowCode.msgtype10 (u : PosUse) : RowCode.Statement (.msgtype10 u) := fun _ => nofun
theorem RowCode.msgtype11 (u : PosUse) : RowCode.Statement (.msgtype11 u) := fun _ => nofun
theorem RowCode.msgtype12 (u : PosUse) : RowCode.Statement (.msgtype12 u) := fun _ => nofun
theorem RowCode.msgtype13 (u : PosUse) : RowCode.Statement (.msgtype13 u) := fun _ => nofun
theorem RowCode.msgtype14 (u : PosUse) : RowCode.Statement (.msgtype14 u) := fun _ => nofun
theorem RowCode.msgtype15 (u : PosUse) : RowCode.Statement (.msgtype15 u) := fun _ => nofun
theorem RowCode.msgtype16 (u : PosUse) : RowCode.Statement (.msgtype16 u) := fun _ => nofun
theorem RowCode.msgtype17 (u : PosUse) : RowCode.Statement (.msgtype17 u) := fun _ => nofun
theorem RowCode.msgtype18 (u : PosUse) : RowCode.Statement (.msgtype18 u) := fun _ => nofun
theorem RowCode.msgtype19 (u : PosUse) : RowCode.Statement (.msgtype19 u) := fun _ => nofun
theorem RowCode.msgtype20 (u : PosUse) : RowCode.Statement (.msgtype20 u) := fun _ => nofun
theorem RowCode.msgtype21 (u : PosUse) : RowCode.Statement (.msgtype21 u) := fun _ => nofun
theorem RowCode.msgtype22 (u : PosUse) : RowCode.Statement (.msgtype22 u) := fun _ => nofun
theorem RowCode.msgtype23 (u : PosUse) : RowCode.Statement (.msgtype23 u) := fun _ => nofun
theorem RowCode.msgtype24 (u : PosUse) : RowCode.Statement (.msgtype24 u) := fun _ => nofun
theorem RowCode.msgtype25 (u : PosUse) : RowCode.Statement (.msgtype25 u) := fun _ => nofun
theorem RowCode.msgtype26 (u : PosUse) : RowCode.Statement (.msgtype26 u) := fun _ => nofun
theorem RowCode.msgtype27 (u : PosUse) : RowCode.Statement (.msgtype27 u) := fun _ => nofun
theorem RowCode.msgtype28 (u : PosUse) : RowCode.Statement (.msgtype28 u) := fun _ => nofun
theorem RowCode.msgtype29 (u : PosUse) : RowCode.Statement (.msgtype29 u) := fun _ => nofun
theorem RowCode.msgtype30 (u : PosUse) : RowCode.Statement (.msgtype30 u) := fun _ => nofun
theorem RowCode.msgtype31 (u : PosUse) : RowCode.Statement (.msgtype31 u) := fun _ => nofun
theorem RowCode.msgtype32 (u : PosUse) : RowCode.Statement (.msgtype32 u) := fun _ => nofun
theorem RowCode.msgtype33 (u : PosUse) : RowCode.Statement (.msgtype33 u) := fun _ => nofun
theorem RowCode.msgtype34 (u : PosUse) : RowCode.Statement (.msgtype34 u) := fun _ => nofun
theorem RowCode.msgtype35 (u : PosUse) : RowCode.Statement (.msgtype35 u) := fun _ => nofun
theorem RowCode.msgtype36 (u : PosUse) : RowCode.Statement (.msgtype36 u) := fun _ => nofun
theorem RowCode.msgtype37 (u : PosUse) : RowCode.Statement (.msgtype37 u) := fun _ => nofun
theorem RowCode.msgtype38 (u : PosUse) : RowCode.Statement (.msgtype38 u) := fun _ => nofun
theorem RowCode.msgtype39 (u : PosUse) : RowCode.Statement (.msgtype39 u) := fun _ => nofun
theorem RowCode.msgtype40 (u : PosUse) : RowCode.Statement (.msgtype40 u) := fun _ => nofun
theorem RowCode.msgtype41 (u : PosUse) : RowCode.Statement (.msgtype41 u) := fun _ => nofun
theorem RowCode.msgtype42 (u : PosUse) : RowCode.Statement (.msgtype42 u) := fun _ => nofun
theorem RowCode.msgtype43 (u : PosUse) : RowCode.Statement (.msgtype43 u) := fun _ => nofun
theorem RowCode.msgtype44 (u : PosUse) : RowCode.Statement (.msgtype44 u) := fun _ => nofun
theorem RowCode.msgtype45 (u : PosUse) : RowCode.Statement (.msgtype45 u) := fun _ => nofun
theorem RowCode.msgtype46 (u : PosUse) : RowCode.Statement (.msgtype46 u) := fun _ => nofun
theorem RowCode.msgtype47 (u : PosUse) : RowCode.Statement (.msgtype47 u) := fun _ => nofun
theorem RowCode.msgtype48 (u : PosUse) : RowCode.Statement (.msgtype48 u) := fun _ => nofun
theorem RowCode.msgtype49 (u : PosUse) : RowCode.Statement (.msgtype49 u) := fun _ => nofun
theorem RowCode.msgtype50 (u : PosUse) : RowCode.Statement (.msgtype50 u) := fun _ => nofun
theorem RowCode.msgtype51 (u : PosUse) : RowCode.Statement (.msgtype51 u) := fun _ => nofun
theorem RowCode.msgtype52 (u : PosUse) : RowCode.Statement (.msgtype52 u) := fun _ => nofun
theorem RowCode.msgtype53 (u : PosUse) : RowCode.Statement (.msgtype53 u) := fun _ => nofun
theorem RowCode.msgtype54 (u : PosUse) : RowCode.Statement (.msgtype54 u) := fun _ => nofun
theorem RowCode.msgtype55 (u : PosUse) : RowCode.Statement (.msgtype55 u) := fun _ => nofun
theorem RowCode.msgtype56 (u : PosUse) : RowCode.Statement (.msgtype56 u) := fun _ => nofun
theorem RowCode.msgtype57 (u : PosUse) : RowCode.Statement (.msgtype57 u) := fun _ => nofun
theorem RowCode.msgtype58 (u : PosUse) : RowCode.Statement (.msgtype58 u) := fun _ => nofun
theorem RowCode.msgtype59 (u : PosUse) : RowCode.Statement (.msgtype59 u) := fun _ => nofun
theorem RowCode.msgtype60 (u : PosUse) : RowCode.Statement (.msgtype60 u) := fun _ => nofun
theorem RowCode.msgtype61 (u : PosUse) : RowCode.Statement (.msgtype61 u) := fun _ => nofun
theorem RowCode.msgtype62 (u : PosUse) : RowCode.Statement (.msgtype62 u) := fun _ => nofun
theorem RowCode.msgtype63 (u : PosUse) : RowCode.Statement (.msgtype63 u) := fun _ => nofun
theorem RowCode.armchr30 (d : Dir) : RowCode.Statement (.armchr30 d) := fun _ => nofun
theorem RowCode.armchr31 (d : Dir) : RowCode.Statement (.armchr31 d) := fun _ => nofun
theorem RowCode.armchr32 (d : Dir) : RowCode.Statement (.armchr32 d) := fun _ => nofun
theorem RowCode.armchr33 (d : Dir) : RowCode.Statement (.armchr33 d) := fun _ => nofun
theorem RowCode.armchr34 (d : Dir) : RowCode.Statement (.armchr34 d) := fun _ => nofun
theorem RowCode.armchr35 (d : Dir) : RowCode.Statement (.armchr35 d) := fun _ => nofun
theorem RowCode.armchr36 (d : Dir) : RowCode.Statement (.armchr36 d) := fun _ => nofun
theorem RowCode.armchr37 (d : Dir) : RowCode.Statement (.armchr37 d) := fun _ => nofun
theorem RowCode.armchr38 (d : Dir) : RowCode.Statement (.armchr38 d) := fun _ => nofun
theorem RowCode.armchr39 (d : Dir) : RowCode.Statement (.armchr39 d) := fun _ => nofun
theorem RowCode.armchr3A (d : Dir) : RowCode.Statement (.armchr3A d) := fun _ => nofun
theorem RowCode.armchr3B (d : Dir) : RowCode.Statement (.armchr3B d) := fun _ => nofun
theorem RowCode.armchr3C (d : Dir) : RowCode.Statement (.armchr3C d) := fun _ => nofun
theorem RowCode.armchr3D (d : Dir) : RowCode.Statement (.armchr3D d) := fun _ => nofun
theorem RowCode.armchr3E (d : Dir) : RowCode.Statement (.armchr3E d) := fun _ => nofun
theorem RowCode.armchr3F (d : Dir) : RowCode.Statement (.armchr3F d) := fun _ => nofun
theorem RowCode.armchr40 (d : Dir) : RowCode.Statement (.armchr40 d) := fun _ => nofun
theorem RowCode.armchr41 (d : Dir) : RowCode.Statement (.armchr41 d) := fun _ => nofun
theorem RowCode.armchr42 (d : Dir) : RowCode.Statement (.armchr42 d) := fun _ => nofun
theorem RowCode.armchr43 (d : Dir) : RowCode.Statement (.armchr43 d) := fun _ => nofun
theorem RowCode.armchr44 (d : Dir) : RowCode.Statement (.armchr44 d) := fun _ => nofun
theorem RowCode.armchr45 (d : Dir) : RowCode.Statement (.armchr45 d) := fun _ => nofun
theorem RowCode.armchr46 (d : Dir) : RowCode.Statement (.armchr46 d) := fun _ => nofun
theorem RowCode.armchr47 (d : Dir) : RowCode.Statement (.armchr47 d) := fun _ => nofun
theorem RowCode.armchr48 (d : Dir) : RowCode.Statement (.armchr48 d) := fun _ => nofun
theorem RowCode.armchr49 (d : Dir) : RowCode.Statement (.armchr49 d) := fun _ => nofun
theorem RowCode.armchr4A (d : Dir) : RowCode.Statement (.armchr4A d) := fun _ => nofun
theorem RowCode.armchr4B (d : Dir) : RowCode.Statement (.armchr4B d) := fun _ => nofun
theorem RowCode.armchr4C (d : Dir) : RowCode.Statement (.armchr4C d) := fun _ => nofun
theorem RowCode.armchr4D (d : Dir) : RowCode.Statement (.armchr4D d) := fun _ => nofun
theorem RowCode.armchr4E (d : Dir) : RowCode.Statement (.armchr4E d) := fun _ => nofun
theorem RowCode.armchr4F (d : Dir) : RowCode.Statement (.armchr4F d) := fun _ => nofun
theorem RowCode.armchr50 (d : Dir) : RowCode.Statement (.armchr50 d) := fun _ => nofun
theorem RowCode.armchr51 (d : Dir) : RowCode.Statement (.armchr51 d) := fun _ => nofun
theorem RowCode.armchr52 (d : Dir) : RowCode.Statement (.armchr52 d) := fun _ => nofun
theorem RowCode.armchr53 (d : Dir) : RowCode.Statement (.armchr53 d) := fun _ => nofun
theorem RowCode.armchr54 (d : Dir) : RowCode.Statement (.armchr54 d) := fun _ => nofun
theorem RowCode.armchr55 (d : Dir) : RowCode.Statement (.armchr55 d) := fun _ => nofun
theorem RowCode.armchr56 (d : Dir) : RowCode.Statement (.armchr56 d) := fun _ => nofun
theorem RowCode.armchr57 (d : Dir) : RowCode.Statement (.armchr57 d) := fun _ => nofun
theorem RowCode.armchr60 (d : Dir) : RowCode.Statement (.armchr60 d) := fun _ => nofun
theorem RowCode.armchr61 (d : Dir) : RowCode.Statement (.armchr61 d) := fun _ => nofun
theorem RowCode.armchr62 (d : Dir) : RowCode.Statement (.armchr62 d) := fun _ => nofun
theorem RowCode.armchr63 (d : Dir) : RowCode.Statement (.armchr63 d) := fun _ => nofun
theorem RowCode.armchr64 (d : Dir) : RowCode.Statement (.armchr64 d) := fun _ => nofun
theorem RowCode.armchr65 (d : Dir) : RowCode.Statement (.armchr65 d) := fun _ => nofun
theorem RowCode.armchr66 (d : Dir) : RowCode.Statement (.armchr66 d) := fun _ => nofun
theorem RowCode.armchr67 (d : Dir) : RowCode.Statement (.armchr67 d) := fun _ => nofun
theorem RowCode.armchr68 (d : Dir) : RowCode.Statement (.armchr68 d) := fun _ => nofun
theorem RowCode.armchr69 (d : Dir) : RowCode.Statement (.armchr69 d) := fun _ => nofun
theorem RowCode.armchr6A (d : Dir) : RowCode.Statement (.armchr6A d) := fun _ => nofun
theorem RowCode.armchr6B (d : Dir) : RowCode.Statement (.armchr6B d) := fun _ => nofun
theorem RowCode.armchr6C (d : Dir) : RowCode.Statement (.armchr6C d) := fun _ => nofun
theorem RowCode.armchr6D (d : Dir) : RowCode.Statement (.armchr6D d) := fun _ => nofun
theorem RowCode.armchr6E (d : Dir) : RowCode.Statement (.armchr6E d) := fun _ => nofun
theorem RowCode.armchr6F (d : Dir) : RowCode.Statement (.armchr6F d) := fun _ => nofun
theorem RowCode.armchr70 (d : Dir) : RowCode.Statement (.armchr70 d) := fun _ => nofun
theorem RowCode.armchr71 (d : Dir) : RowCode.Statement (.armchr71 d) := fun _ => nofun
theorem RowCode.armchr72 (d : Dir) : RowCode.Statement (.armchr72 d) := fun _ => nofun
theorem RowCode.armchr73 (d : Dir) : RowCode.Statement (.armchr73 d) := fun _ => nofun
theorem RowCode.armchr74 (d : Dir) : RowCode.Statement (.armchr74 d) := fun _ => nofun
theorem RowCode.armchr75 (d : Dir) : RowCode.Statement (.armchr75 d) := fun _ => nofun
theorem RowCode.armchr76 (d : Dir) : RowCode.Statement (.armchr76 d) := fun _ => nofun
theorem RowCode.armchr77 (d : Dir) : RowCode.Statement (.armchr77 d) := fun _ => nofun
theorem RowCode.txtchr00 (d : Dir) : RowCode.Statement (.txtchr00 d) := fun _ => nofun
theorem RowCode.txtchr01 (d : Dir) : RowCode.Statement (.txtchr01 d) := fun _ => nofun
theorem RowCode.txtchr02 (d : Dir) : RowCode.Statement (.txtchr02 d) := fun _ => nofun
theorem RowCode.txtchr03 (d : Dir) : RowCode.Statement (.txtchr03 d) := fun _ => nofun
theorem RowCode.txtchr04 (d : Dir) : RowCode.Statement (.txtchr04 d) := fun _ => nofun
theorem RowCode.txtchr05 (d : Dir) : RowCode.Statement (.txtchr05 d) := fun _ => nofun
theorem RowCode.txtchr06 (d : Dir) : RowCode.Statement (.txtchr06 d) := fun _ => nofun
theorem RowCode.txtchr07 (d : Dir) : RowCode.Statement (.txtchr07 d) := fun _ => nofun
theorem RowCode.txtchr08 (d : Dir) : RowCode.Statement (.txtchr08 d) := fun _ => nofun
theorem RowCode.txtchr09 (d : Dir) : RowCode.Statement (.txtchr09 d) := fun _ => nofun
theorem RowCode.txtchr10 (d : Dir) : RowCode.Statement (.txtchr10 d) := fun _ => nofun
theorem RowCode.txtchr11 (d : Dir) : RowCode.Statement (.txtchr11 d) := fun _ => nofun
theorem RowCode.txtchr12 (d : Dir) : RowCode.Statement (.txtchr12 d) := fun _ => nofun
theorem RowCode.txtchr13 (d : Dir) : RowCode.Statement (.txtchr13 d) := fun _ => nofun
theorem RowCode.txtchr14 (d : Dir) : RowCode.Statement (.txtchr14 d) := fun _ => nofun
theorem RowCode.txtchr15 (d : Dir) : RowCode.Statement (.txtchr15 d) := fun _ => nofun
theorem RowCode.txtchr16 (d : Dir) : RowCode.Statement (.txtchr16 d) := fun _ => nofun
theorem RowCode.txtchr17 (d : Dir) : RowCode.Statement (.txtchr17 d) := fun _ => nofun
theorem RowCode.txtchr18 (d : Dir) : RowCode.Statement (.txtchr18 d) := fun _ => nofun
theorem RowCode.txtchr19 (d : Dir) : RowCode.Statement (.txtchr19 d) := fun _ => nofun
theorem RowCode.txtchr20 (d : Dir) : RowCode.Statement (.txtchr20 d) := fun _ => nofun
theorem RowCode.txtchr21 (d : Dir) : RowCode.Statement (.txtchr21 d) := fun _ => nofun
theorem RowCode.txtchr22 (d : Dir) : RowCode.Statement (.txtchr22 d) := fun _ => nofun
theorem RowCode.txtchr23 (d : Dir) : RowCode.Statement (.txtchr23 d) := fun _ => nofun
theorem RowCode.txtchr24 (d : Dir) : RowCode.Statement (.txtchr24 d) := fun _ => nofun
theorem RowCode.txtchr25 (d : Dir) : RowCode.Statement (.txtchr25 d) := fun _ => nofun
theorem RowCode.txtchr26 (d : Dir) : RowCode.Statement (.txtchr26 d) := fun _ => nofun
theorem RowCode.txtchr27 (d : Dir) : RowCode.Statement (.txtchr27 d) := fun _ => nofun
theorem RowCode.txtchr28 (d : Dir) : RowCode.Statement (.txtchr28 d) := fun _ => nofun
theorem RowCode.txtchr29 (d : Dir) : RowCode.Statement (.txtchr29 d) := fun _ => nofun
theorem RowCode.txtchr30 (d : Dir) : RowCode.Statement (.txtchr30 d) := fun _ => nofun
theorem RowCode.txtchr31 (d : Dir) : RowCode.Statement (.txtchr31 d) := fun _ => nofun
theorem RowCode.txtchr32 (d : Dir) : RowCode.Statement (.txtchr32 d) := fun _ => nofun
theorem RowCode.txtchr33 (d : Dir) : RowCode.Statement (.txtchr33 d) := fun _ => nofun
theorem RowCode.txtchr34 (d : Dir) : RowCode.Statement (.txtchr34 d) := fun _ => nofun
theorem RowCode.txtchr35 (d : Dir) : RowCode.Statement (.txtchr35 d) := fun _ => nofun
theorem RowCode.txtchr36 (d : Dir) : RowCode.Statement (.txtchr36 d) := fun _ => nofun
theorem RowCode.txtchr37 (d : Dir) : RowCode.Statement (.txtchr37 d) := fun _ => nofun
theorem RowCode.txtchr38 (d : Dir) : RowCode.Statement (.txtchr38 d) := fun _ => nofun
theorem RowCode.txtchr39 (d : Dir) : RowCode.Statement (.txtchr39 d) := fun _ => nofun
theorem RowCode.txtchr40 (d : Dir) : RowCode.Statement (.txtchr40 d) := fun _ => nofun
theorem RowCode.txtchr41 (d : Dir) : RowCode.Statement (.txtchr41 d) := fun _ => nofun
theorem RowCode.txtchr42 (d : Dir) : RowCode.Statement (.txtchr42 d) := fun _ => nofun
theorem RowCode.txtchr43 (d : Dir) : RowCode.Statement (.txtchr43 d) := fun _ => nofun
theorem RowCode.txtchr44 (d : Dir) : RowCode.Statement (.txtchr44 d) := fun _ => nofun
theorem RowCode.txtchr45 (d : Dir) : RowCode.Statement (.txtchr45 d) := fun _ => nofun
theorem RowCode.txtchr46 (d : Dir) : RowCode.Statement (.txtchr46 d) := fun _ => nofun
theorem RowCode.txtchr47 (d : Dir) : RowCode.Statement (.txtchr47 d) := fun _ => nofun
theorem RowCode.txtchr48 (d : Dir) : RowCode.Statement (.txtchr48 d) := fun _ => nofun
theorem RowCode.txtchr49 (d : Dir) : RowCode.Statement (.txtchr49 d) := fun _ => nofun
theorem RowCode.txtchr50 (d : Dir) : RowCode.Statement (.txtchr50 d) := fun _ => nofun
theorem RowCode.txtchr51 (d : Dir) : RowCode.Statement (.txtchr51 d) := fun _ => nofun
theorem RowCode.txtchr52 (d : Dir) : RowCode.Statement (.txtchr52 d) := fun _ => nofun
theorem RowCode.txtchr53 (d : Dir) : RowCode.Statement (.txtchr53 d) := fun _ => nofun
theorem RowCode.txtchr54 (d : Dir) : RowCode.Statement (.txtchr54 d) := fun _ => nofun
theorem RowCode.txtchr55 (d : Dir) : RowCode.Statement (.txtchr55 d) := fun _ => nofun
theorem RowCode.txtchr56 (d : Dir) : RowCode.Statement (.txtchr56 d) := fun _ => nofun
theorem RowCode.txtchr57 (d : Dir) : RowCode.Statement (.txtchr57 d) := fun _ => nofun
theorem RowCode.txtchr58 (d : Dir) : RowCode.Statement (.txtchr58 d) := fun _ => nofun
theorem RowCode.txtchr59 (d : Dir) : RowCode.Statement (.txtchr59 d) := fun _ => nofun
theorem RowCode.txtchr60 (d : Dir) : RowCode.Statement (.txtchr60 d) := fun _ => nofun
theorem RowCode.txtchr61 (d : Dir) : RowCode.Statement (.txtchr61 d) := fun _ => nofun
theorem RowCode.txtchr62 (d : Dir) : RowCode.Statement (.txtchr62 d) := fun _ => nofun
theorem RowCode.txtchr63 (d : Dir) : RowCode.Statement (.txtchr63 d) := fun _ => nofun
theorem RowCode.kindNone : RowCode.Statement .kindNone := fun _ => nofun
theorem RowCode.kindPos : RowCode.Statement .kindPos := fun _ => nofun
theorem RowCode.kindStat : RowCode.Statement .kindStat := fun _ => nofun
theorem RowCode.kindLines : RowCode.Statement .kindLines := fun _ => nofun
theorem RowCode.causeOk : RowCode.Statement .causeOk := fun _ => nofun
theorem RowCode.causeBuffered : RowCode.Statement .causeBuffered := fun _ => nofun
theorem RowCode.causeDropGrammar : RowCode.Statement .causeDropGrammar := fun _ => nofun
theorem RowCode.causeDropChecksum : RowCode.Statement .causeDropChecksum := fun _ => nofun
theorem RowCode.causeDropShort : RowCode.Statement .causeDropShort := fun _ => nofun
theorem RowCode.causeDropType : RowCode.Statement .causeDropType := fun _ => nofun
theorem RowCode.causeDropIncomplete : RowCode.Statement .causeDropIncomplete := fun _ => nofun
theorem RowCode.causeDropLimit : RowCode.Statement .causeDropLimit := fun _ => nofun
theorem RowCode.causeDropCapacity : RowCode.Statement .causeDropCapacity := fun _ => nofun
theorem RowCode.causeEncSignedRange : RowCode.Statement .causeEncSignedRange := fun _ => nofun
theorem RowCode.causeEncUnsignedRange : RowCode.Statement .causeEncUnsignedRange := fun _ => nofun
theorem RowCode.causeEncType : RowCode.Statement .causeEncType := fun _ => nofun
theorem RowCode.causeEncChannel : RowCode.Statement .causeEncChannel := fun _ => nofun
theorem RowCode.causeEncArmorRange : RowCode.Statement .causeEncArmorRange := fun _ => nofun
theorem RowCode.causeIllegalOp : RowCode.Statement .causeIllegalOp := fun _ => nofun
theorem RowCode.causeReserved15 : RowCode.Statement .causeReserved15 := fun _ => nofun
theorem RowCode.chkXor (body : Bytes) : RowCode.Statement (.chkXor body) := fun _ => nofun
theorem RowCode.chkHex2 (h : Byte) (l : Byte) : RowCode.Statement (.chkHex2 h l) := fun _ => nofun
theorem RowCode.chkVerify (body : Bytes) : RowCode.Statement (.chkVerify body) := fun _ => nofun
theorem RowCode.parseFrame : RowCode.Statement .parseFrame := fun _ => nofun
theorem RowCode.parseSplit (body : Bytes) : RowCode.Statement (.parseSplit body) := fun _ => nofun
theorem RowCode.parseInt (str : Bytes) : RowCode.Statement (.parseInt str) := fun _ => nofun
theorem RowCode.parseTotal (f : Bytes) : RowCode.Statement (.parseTotal f) := fun _ => nofun
theorem RowCode.parsePart (f : Bytes) : RowCode.Statement (.parsePart f) := fun _ => nofun
theorem RowCode.parseSeq (f : Bytes) : RowCode.Statement (.parseSeq f) := fun _ => nofun
theorem RowCode.parseChan (f : Bytes) : RowCode.Statement (.parseChan f) := fun _ => nofun
theorem RowCode.parsePayload (f : Bytes) : RowCode.Statement (.parsePayload f) := fun _ => nofun
theorem RowCode.parseFill (f : Bytes) : RowCode.Statement (.parseFill f) := fun _ => nofun
theorem RowCode.parseCksum (h : Byte) (l : Byte) : RowCode.Statement (.parseCksum h l) := fun _ => nofun
theorem RowCode.parse (line : Bytes) : RowCode.Statement (.parse line) := fun _ => nofun
theorem RowCode.rsmBypass (t : Time) : RowCode.Statement (.rsmBypass t) := fun _ => nofun
theorem RowCode.rsmKey : RowCode.Statement .rsmKey := fun _ => nofun
theorem RowCode.rsmLookup (k : Key) : RowCode.Statement (.rsmLookup k) := fun _ => nofun
theorem RowCode.rsmCreate (k : Key) (t : Time) : RowCode.Statement (.rsmCreate k t) := fun _ => nofun
theorem RowCode.rsmStore (k : Key) : RowCode.Statement (.rsmStore k) := fun _ => nofun
theorem RowCode.rsmFill (k : Key) : RowCode.Statement (.rsmFill k) := fun _ => nofun
theorem RowCode.rsmCount (k : Key) : RowCode.Statement (.rsmCount k) := fun _ => nofun
theorem RowCode.rsmComplete (k : Key) : RowCode.Statement (.rsmComplete k) := fun _ => nofun
theorem RowCode.rsmCheck (e : Entry) : RowCode.Statement (.rsmCheck e) := fun _ => nofun
theorem RowCode.rsmJoin (e : Entry) : RowCode.Statement (.rsmJoin e) := fun _ => nofun
theorem RowCode.rsm (t : Time) : RowCode.Statement (.rsm t) := fun _ => nofun
theorem RowCode.rsmExpire (t : Time) : RowCode.Statement (.rsmExpire t) := fun _ => nofun
theorem RowCode.rsmSweep (t : Time) : RowCode.Statement (.rsmSweep t) := fun _ => nofun
theorem RowCode.armDec6 (c : Byte) : RowCode.Statement (.armDec6 c) := fun _ => nofun
theorem RowCode.armUnpack : RowCode.Statement .armUnpack := fun _ => nofun
theorem RowCode.armStrip : RowCode.Statement .armStrip := fun _ => nofun
theorem RowCode.armDecode : RowCode.Statement .armDecode := fun _ => nofun
theorem RowCode.armPad6 : RowCode.Statement .armPad6 := fun _ => nofun
theorem RowCode.armEnc6 (v : Int) : RowCode.Statement (.armEnc6 v) := fun _ => nofun
theorem RowCode.armPack : RowCode.Statement .armPack := fun _ => nofun
theorem RowCode.armEncode : RowCode.Statement .armEncode := fun _ => nofun
theorem RowCode.fldGetu (o : Nat) (w : Nat) : RowCode.Statement (.fldGetu o w) := fun _ => nofun
theorem RowCode.fldGets (o : Nat) (w : Nat) : RowCode.Statement (.fldGets o w) := fun _ => nofun
theorem RowCode.fldGett (o : Nat) (n : Nat) : RowCode.Statement (.fldGett o n) := fun _ => nofun
theorem RowCode.fldPutu (v : RecInt) (w : Nat) : RowCode.Statement (.fldPutu v w) := fun _ => nofun
theorem RowCode.fldPuts (v : RecInt) (w : Nat) : RowCode.Statement (.fldPuts v w) := fun _ => nofun
theorem RowCode.fldPutt (text : Bytes) (n : Nat) : RowCode.Statement (.fldPutt text n) := fun _ => nofun
theorem RowCode.fldType : RowCode.Statement .fldType := fun _ => nofun
theorem RowCode.posDecode : RowCode.Statement .posDecode := fun _ => nofun
theorem RowCode.posEncode (op : PosOperand) : RowCode.Statement (.posEncode op) := fun _ => nofun
theorem RowCode.statDecode : RowCode.Statement .statDecode := fun _ => nofun
theorem RowCode.statEncode (op : StatOperand) : RowCode.Statement (.statEncode op) := fun _ => nofun
theorem RowCode.emtPad : RowCode.Statement .emtPad := fun _ => nofun
theorem RowCode.emtChunk (p : Bytes) : RowCode.Statement (.emtChunk p) := fun _ => nofun
theorem RowCode.emtFill (n : Nat) : RowCode.Statement (.emtFill n) := fun _ => nofun
theorem RowCode.emtSeq (n : Nat) (d : SeqDraw) : RowCode.Statement (.emtSeq n d) := fun _ => nofun
theorem RowCode.emtChan (c : Bytes) : RowCode.Statement (.emtChan c) := fun _ => nofun
theorem RowCode.emtLine (n : Nat) (i : Nat) (seqId : Bytes) (ch : Byte) (chunk : Bytes) (f : Nat) : RowCode.Statement (.emtLine n i seqId ch chunk f) := fun _ => nofun
theorem RowCode.emtCksum (body : Bytes) : RowCode.Statement (.emtCksum body) := fun _ => nofun
theorem RowCode.emt (c : Bytes) (d : SeqDraw) : RowCode.Statement (.emt c d) := fun _ => nofun
theorem RowCode.decodePayload : RowCode.Statement .decodePayload := fun _ => nofun

end Sys2Proof.Laws
end

