-- ==== Sys2Proof/Tests/Slice0.lean ====
section
/-! SUPPORT. Tests of the model: the checks of WellFormed, the decoding of every row, vectors of spec/95_test_vectors.md and
spec/96_test_programs.md by their names there, and for every statement with hypotheses a witness that meets them. -/

namespace Sys2Proof.Tests
open Sys2Proof.Machine

-- One theorem after the other: a hundred kernel evaluations at once take more threads than the machine has memory for.
set_option Elab.async false

/-! ### Helpers -/

/-- The default machine. -/
abbrev std : Config.Params := Config.Params.default

/-- The draw of this number. -/
def draw (n : Nat) : SeqDraw := (SeqDraw.ofDigit n).getD ⟨0⟩

/-- The bytes of an ASCII text. -/
def ascii (str : String) : Bytes := str.toList.map (fun c => BitVec.ofNat 8 c.toNat)

/-- The bits of a text of zeros and ones; any other character is skipped. -/
def bitsOf (str : String) : Bits := (str.toList.filter (fun c => c == '0' || c == '1')).map (fun c => c == '1')

/-- Reset with this table. -/
def withTable (rt : List Entry) : State := State.reset.withRt rt

/-- Reset with these bits in BITS. -/
def withBuffer (b : Bits) : State := State.reset.withBits b

/-- The response of a next state. -/
def answer : Host.Outcome State Fault Refusal → Option Response
  | .next s => some s.resp
  | _ => none

/-- Kind and cause of a next state. -/
def kindCause (o : Host.Outcome State Fault Refusal) : Option (Kind × Cause) := (answer o).map (fun r => (r.kind, r.cause))

/-- The table of a next state. -/
def table : Host.Outcome State Fault Refusal → Option (List Entry)
  | .next s => some s.rt
  | _ => none

/-- The value a next state returns. -/
def returned : Host.Outcome State Fault Refusal → Option Ret
  | .next s => some s.tr.ret
  | _ => none

/-- BITS of a next state. -/
def buffer : Host.Outcome State Fault Refusal → Option Bits
  | .next s => some s.tr.bits
  | _ => none

/-- The string under construction of a next state. -/
def built : Host.Outcome State Fault Refusal → Option Bytes
  | .next s => some s.tr.acc
  | _ => none

def absent : OptReg := ⟨false, 0⟩
def given (v : Int) : OptReg := ⟨true, v⟩

/-- The operand of vector S1. -/
def opS1 : PosOperand :=
  { msgType := 1, repeatInd := 0, mmsi := 123456789, navStatus := 0, rot := absent, sog := given 123, posAcc := 0,
    lon := given (-44403600), lat := given 24427680, cog := absent, heading := given 90, utcSec := absent, maneuver := 0,
    raim := 0, radio := 0, channel := ascii "A" }

/-- The record of vector S1. -/
def recS1 : PosRecord :=
  { msgType := 1, repeatInd := 0, mmsi := 123456789, navStatus := 0, rot := BitVec.ofInt 8 (-128), sog := 123, posAcc := 0,
    lon := BitVec.ofInt 28 (-44403600), lat := 24427680, cog := 3600, heading := 90, utcSec := 60, maneuver := 0, raim := 0,
    radio := 0, channel := 0x41#8 }

def lineS1 : Bytes := ascii "!AIVDM,1,1,,A,11mg=5@P1sJe>SPGBt`>42mp0000,0*50"

/-- The operand of vector T1. -/
def opT1 : StatOperand :=
  { repeatInd := 0, mmsi := 123456789, aisVersion := 0, imo := 9074729, callsign := ascii "ABC123", name := ascii "TEST VESSEL",
    shipType := 70, toBow := 100, toStern := 20, toPort := 10, toStarboard := 12, epfd := 1, etaMonth := absent, etaDay := absent,
    etaHour := absent, etaMinute := absent, draught := 65, destination := ascii "ROTTERDAM", dteAvailable := 1,
    channel := ascii "B" }

/-- The record of vector T1. -/
def recT1 : StatRecord :=
  { msgType := 5, repeatInd := 0, mmsi := 123456789, aisVersion := 0, imo := 9074729, callsign := ascii "ABC123",
    name := ascii "TEST VESSEL", shipType := 70, toBow := 100, toStern := 20, toPort := 10, toStarboard := 12, epfd := 1,
    etaMonth := 0, etaDay := 0, etaHour := 24, etaMinute := 60, draught := 65, destination := ascii "ROTTERDAM",
    dteAvailable := 1, channel := 0x42#8 }

def payloadT1 : Bytes := ascii "51mg=5@2:N2T48?7;<1@E=B1HE=<Dh0000000016<PD:<40Ht@DSm51DQ0C@"
def lineT1a : Bytes := ascii "!AIVDM,2,1,3,B,51mg=5@2:N2T48?7;<1@E=B1HE=<Dh0000000016<PD:<40Ht@DSm51DQ0C@,0*23"
def lineT1b : Bytes := ascii "!AIVDM,2,2,3,B,00000000000,6*20"

/-- The key of T1's lines, and the entries that one of them leaves when it arrives at time `t`. -/
def key3 : Key := ⟨true, ascii "3"⟩
def entryT1a (t : Time) : Entry := ⟨key3, 2, [(1, payloadT1)], 0, t⟩
def entryT1b (t : Time) : Entry := ⟨key3, 2, [(2, ascii "00000000000")], 6, t⟩

/-! ### WellFormed refuses, check by check -/

theorem test_wf_draw : decode std ⟨.cmd 0b010#3, [.pos opS1, .draw 10]⟩ = .error .draw := by decide +kernel
theorem test_wf_draw_zero : decode std ⟨.cmd 0b011#3, [.stat opT1, .draw 0]⟩ = .error .draw := by decide +kernel
theorem test_wf_text_too_long :
    wfError std (.fldPutt (List.replicate 256 0x41#8) 20) = some .textTooLong := by decide +kernel
theorem test_wf_name_too_long :
    wfError std (.encstat { opT1 with name := List.replicate 256 0x41#8 } (draw 1)) = some .textTooLong := by decide +kernel
theorem test_wf_channel_too_long :
    wfError std (.encpos { opS1 with channel := List.replicate 256 0x41#8 } (draw 1)) = some .channelTooLong := by decide +kernel
theorem test_wf_bad_key : wfError std (.rsmStore ⟨false, [0x33#8]⟩) = some .badKey := by decide +kernel
theorem test_wf_reg_too_wide : wfError std (.encpos { opS1 with radio := 2 ^ 31 } (draw 1)) = some .regTooWide := by decide +kernel
theorem test_wf_time_too_wide : wfError std (.sweep (2 ^ 64)) = some .timeTooWide := by decide +kernel
theorem test_wf_parameters :
    wfError { std with wTime := 8, wRec := 8, textInMax := 3 } (.sweep 255) = none ∧
    wfError { std with wTime := 8, wRec := 8, textInMax := 3 } (.decode [] 256) = some .timeTooWide ∧
    wfError { std with wTime := 8, wRec := 8, textInMax := 3 } (.fldPuts (-128) 4) = none ∧
    wfError { std with wTime := 8, wRec := 8, textInMax := 3 } (.fldPutu 128 4) = some .regTooWide ∧
    wfError { std with wTime := 8, wRec := 8, textInMax := 3 } (.fldPutt (ascii "ABCD") 7) = some .textTooLong := by decide +kernel
theorem test_wf_operands : decode std ⟨.cmd 0b001#3, [.time 0]⟩ = .error .operands := by decide +kernel
theorem test_wf_no_such_code : decode std ⟨.armor 0b01011000#8, [.dir .rx]⟩ = .error .noSuchCode := by decide +kernel

/-! ### Decoding: every row of the table, its code written out from the table (R72, R79, R80, R81, R85, R86) -/

/-- Each code with these operands decodes to its row. -/
def rowsDecode {α : Type} (code : α → Code) (args : List Arg) (rows : List (α × Instr)) : Bool :=
  rows.all (fun r => decide (decode std ⟨code r.1, args⟩ = .ok r.2))

theorem test_decode_armor_0 : rowsDecode .armor [.dir .rx]
   [(0b00110000#8, Instr.armchr30 .rx), (0b00110001#8, Instr.armchr31 .rx), (0b00110010#8, Instr.armchr32 .rx),
    (0b00110011#8, Instr.armchr33 .rx), (0b00110100#8, Instr.armchr34 .rx), (0b00110101#8, Instr.armchr35 .rx),
    (0b00110110#8, Instr.armchr36 .rx), (0b00110111#8, Instr.armchr37 .rx), (0b00111000#8, Instr.armchr38 .rx),
    (0b00111001#8, Instr.armchr39 .rx), (0b00111010#8, Instr.armchr3A .rx), (0b00111011#8, Instr.armchr3B .rx),
    (0b00111100#8, Instr.armchr3C .rx), (0b00111101#8, Instr.armchr3D .rx), (0b00111110#8, Instr.armchr3E .rx),
    (0b00111111#8, Instr.armchr3F .rx)] = true := by
  decide +kernel

theorem test_decode_armor_1 : rowsDecode .armor [.dir .rx]
   [(0b01000000#8, Instr.armchr40 .rx), (0b01000001#8, Instr.armchr41 .rx), (0b01000010#8, Instr.armchr42 .rx),
    (0b01000011#8, Instr.armchr43 .rx), (0b01000100#8, Instr.armchr44 .rx), (0b01000101#8, Instr.armchr45 .rx),
    (0b01000110#8, Instr.armchr46 .rx), (0b01000111#8, Instr.armchr47 .rx), (0b01001000#8, Instr.armchr48 .rx),
    (0b01001001#8, Instr.armchr49 .rx), (0b01001010#8, Instr.armchr4A .rx), (0b01001011#8, Instr.armchr4B .rx),
    (0b01001100#8, Instr.armchr4C .rx), (0b01001101#8, Instr.armchr4D .rx), (0b01001110#8, Instr.armchr4E .rx),
    (0b01001111#8, Instr.armchr4F .rx)] = true := by
  decide +kernel

theorem test_decode_armor_2 : rowsDecode .armor [.dir .rx]
   [(0b01010000#8, Instr.armchr50 .rx), (0b01010001#8, Instr.armchr51 .rx), (0b01010010#8, Instr.armchr52 .rx),
    (0b01010011#8, Instr.armchr53 .rx), (0b01010100#8, Instr.armchr54 .rx), (0b01010101#8, Instr.armchr55 .rx),
    (0b01010110#8, Instr.armchr56 .rx), (0b01010111#8, Instr.armchr57 .rx), (0b01100000#8, Instr.armchr60 .rx),
    (0b01100001#8, Instr.armchr61 .rx), (0b01100010#8, Instr.armchr62 .rx), (0b01100011#8, Instr.armchr63 .rx),
    (0b01100100#8, Instr.armchr64 .rx), (0b01100101#8, Instr.armchr65 .rx), (0b01100110#8, Instr.armchr66 .rx),
    (0b01100111#8, Instr.armchr67 .rx)] = true := by
  decide +kernel

theorem test_decode_armor_3 : rowsDecode .armor [.dir .rx]
   [(0b01101000#8, Instr.armchr68 .rx), (0b01101001#8, Instr.armchr69 .rx), (0b01101010#8, Instr.armchr6A .rx),
    (0b01101011#8, Instr.armchr6B .rx), (0b01101100#8, Instr.armchr6C .rx), (0b01101101#8, Instr.armchr6D .rx),
    (0b01101110#8, Instr.armchr6E .rx), (0b01101111#8, Instr.armchr6F .rx), (0b01110000#8, Instr.armchr70 .rx),
    (0b01110001#8, Instr.armchr71 .rx), (0b01110010#8, Instr.armchr72 .rx), (0b01110011#8, Instr.armchr73 .rx),
    (0b01110100#8, Instr.armchr74 .rx), (0b01110101#8, Instr.armchr75 .rx), (0b01110110#8, Instr.armchr76 .rx),
    (0b01110111#8, Instr.armchr77 .rx)] = true := by
  decide +kernel

theorem test_decode_text_0 : rowsDecode .text [.dir .tx]
   [(0b000000#6, Instr.txtchr00 .tx), (0b000001#6, Instr.txtchr01 .tx), (0b000010#6, Instr.txtchr02 .tx),
    (0b000011#6, Instr.txtchr03 .tx), (0b000100#6, Instr.txtchr04 .tx), (0b000101#6, Instr.txtchr05 .tx),
    (0b000110#6, Instr.txtchr06 .tx), (0b000111#6, Instr.txtchr07 .tx), (0b001000#6, Instr.txtchr08 .tx),
    (0b001001#6, Instr.txtchr09 .tx), (0b001010#6, Instr.txtchr10 .tx), (0b001011#6, Instr.txtchr11 .tx),
    (0b001100#6, Instr.txtchr12 .tx), (0b001101#6, Instr.txtchr13 .tx), (0b001110#6, Instr.txtchr14 .tx),
    (0b001111#6, Instr.txtchr15 .tx)] = true := by
  decide +kernel

theorem test_decode_text_1 : rowsDecode .text [.dir .tx]
   [(0b010000#6, Instr.txtchr16 .tx), (0b010001#6, Instr.txtchr17 .tx), (0b010010#6, Instr.txtchr18 .tx),
    (0b010011#6, Instr.txtchr19 .tx), (0b010100#6, Instr.txtchr20 .tx), (0b010101#6, Instr.txtchr21 .tx),
    (0b010110#6, Instr.txtchr22 .tx), (0b010111#6, Instr.txtchr23 .tx), (0b011000#6, Instr.txtchr24 .tx),
    (0b011001#6, Instr.txtchr25 .tx), (0b011010#6, Instr.txtchr26 .tx), (0b011011#6, Instr.txtchr27 .tx),
    (0b011100#6, Instr.txtchr28 .tx), (0b011101#6, Instr.txtchr29 .tx), (0b011110#6, Instr.txtchr30 .tx),
    (0b011111#6, Instr.txtchr31 .tx)] = true := by
  decide +kernel

theorem test_decode_text_2 : rowsDecode .text [.dir .tx]
   [(0b100000#6, Instr.txtchr32 .tx), (0b100001#6, Instr.txtchr33 .tx), (0b100010#6, Instr.txtchr34 .tx),
    (0b100011#6, Instr.txtchr35 .tx), (0b100100#6, Instr.txtchr36 .tx), (0b100101#6, Instr.txtchr37 .tx),
    (0b100110#6, Instr.txtchr38 .tx), (0b100111#6, Instr.txtchr39 .tx), (0b101000#6, Instr.txtchr40 .tx),
    (0b101001#6, Instr.txtchr41 .tx), (0b101010#6, Instr.txtchr42 .tx), (0b101011#6, Instr.txtchr43 .tx),
    (0b101100#6, Instr.txtchr44 .tx), (0b101101#6, Instr.txtchr45 .tx), (0b101110#6, Instr.txtchr46 .tx),
    (0b101111#6, Instr.txtchr47 .tx)] = true := by
  decide +kernel

theorem test_decode_text_3 : rowsDecode .text [.dir .tx]
   [(0b110000#6, Instr.txtchr48 .tx), (0b110001#6, Instr.txtchr49 .tx), (0b110010#6, Instr.txtchr50 .tx),
    (0b110011#6, Instr.txtchr51 .tx), (0b110100#6, Instr.txtchr52 .tx), (0b110101#6, Instr.txtchr53 .tx),
    (0b110110#6, Instr.txtchr54 .tx), (0b110111#6, Instr.txtchr55 .tx), (0b111000#6, Instr.txtchr56 .tx),
    (0b111001#6, Instr.txtchr57 .tx), (0b111010#6, Instr.txtchr58 .tx), (0b111011#6, Instr.txtchr59 .tx),
    (0b111100#6, Instr.txtchr60 .tx), (0b111101#6, Instr.txtchr61 .tx), (0b111110#6, Instr.txtchr62 .tx),
    (0b111111#6, Instr.txtchr63 .tx)] = true := by
  decide +kernel

theorem test_decode_msgtype_0 : rowsDecode .msg [.bits [true]]
   [(0b000000#6, Instr.msgtype0 (.rx [true])), (0b000001#6, Instr.msgtype1 (.rx [true])),
    (0b000010#6, Instr.msgtype2 (.rx [true])), (0b000011#6, Instr.msgtype3 (.rx [true])),
    (0b000100#6, Instr.msgtype4 (.rx [true])), (0b000101#6, Instr.msgtype5 (.rx [true])),
    (0b000110#6, Instr.msgtype6 (.rx [true])), (0b000111#6, Instr.msgtype7 (.rx [true])),
    (0b001000#6, Instr.msgtype8 (.rx [true])), (0b001001#6, Instr.msgtype9 (.rx [true])),
    (0b001010#6, Instr.msgtype10 (.rx [true])), (0b001011#6, Instr.msgtype11 (.rx [true])),
    (0b001100#6, Instr.msgtype12 (.rx [true])), (0b001101#6, Instr.msgtype13 (.rx [true])),
    (0b001110#6, Instr.msgtype14 (.rx [true])), (0b001111#6, Instr.msgtype15 (.rx [true]))] = true := by
  decide +kernel

theorem test_decode_msgtype_1 : rowsDecode .msg [.bits [true]]
   [(0b010000#6, Instr.msgtype16 (.rx [true])), (0b010001#6, Instr.msgtype17 (.rx [true])),
    (0b010010#6, Instr.msgtype18 (.rx [true])), (0b010011#6, Instr.msgtype19 (.rx [true])),
    (0b010100#6, Instr.msgtype20 (.rx [true])), (0b010101#6, Instr.msgtype21 (.rx [true])),
    (0b010110#6, Instr.msgtype22 (.rx [true])), (0b010111#6, Instr.msgtype23 (.rx [true])),
    (0b011000#6, Instr.msgtype24 (.rx [true])), (0b011001#6, Instr.msgtype25 (.rx [true])),
    (0b011010#6, Instr.msgtype26 (.rx [true])), (0b011011#6, Instr.msgtype27 (.rx [true])),
    (0b011100#6, Instr.msgtype28 (.rx [true])), (0b011101#6, Instr.msgtype29 (.rx [true])),
    (0b011110#6, Instr.msgtype30 (.rx [true])), (0b011111#6, Instr.msgtype31 (.rx [true]))] = true := by
  decide +kernel

theorem test_decode_msgtype_2 : rowsDecode .msg [.bits [true]]
   [(0b100000#6, Instr.msgtype32 (.rx [true])), (0b100001#6, Instr.msgtype33 (.rx [true])),
    (0b100010#6, Instr.msgtype34 (.rx [true])), (0b100011#6, Instr.msgtype35 (.rx [true])),
    (0b100100#6, Instr.msgtype36 (.rx [true])), (0b100101#6, Instr.msgtype37 (.rx [true])),
    (0b100110#6, Instr.msgtype38 (.rx [true])), (0b100111#6, Instr.msgtype39 (.rx [true])),
    (0b101000#6, Instr.msgtype40 (.rx [true])), (0b101001#6, Instr.msgtype41 (.rx [true])),
    (0b101010#6, Instr.msgtype42 (.rx [true])), (0b101011#6, Instr.msgtype43 (.rx [true])),
    (0b101100#6, Instr.msgtype44 (.rx [true])), (0b101101#6, Instr.msgtype45 (.rx [true])),
    (0b101110#6, Instr.msgtype46 (.rx [true])), (0b101111#6, Instr.msgtype47 (.rx [true]))] = true := by
  decide +kernel

theorem test_decode_msgtype_3 : rowsDecode .msg [.bits [true]]
   [(0b110000#6, Instr.msgtype48 (.rx [true])), (0b110001#6, Instr.msgtype49 (.rx [true])),
    (0b110010#6, Instr.msgtype50 (.rx [true])), (0b110011#6, Instr.msgtype51 (.rx [true])),
    (0b110100#6, Instr.msgtype52 (.rx [true])), (0b110101#6, Instr.msgtype53 (.rx [true])),
    (0b110110#6, Instr.msgtype54 (.rx [true])), (0b110111#6, Instr.msgtype55 (.rx [true])),
    (0b111000#6, Instr.msgtype56 (.rx [true])), (0b111001#6, Instr.msgtype57 (.rx [true])),
    (0b111010#6, Instr.msgtype58 (.rx [true])), (0b111011#6, Instr.msgtype59 (.rx [true])),
    (0b111100#6, Instr.msgtype60 (.rx [true])), (0b111101#6, Instr.msgtype61 (.rx [true])),
    (0b111110#6, Instr.msgtype62 (.rx [true])), (0b111111#6, Instr.msgtype63 (.rx [true]))] = true := by
  decide +kernel

theorem test_decode_msgtype_tx : rowsDecode .msg [.pos PosOperand.zero]
   [(0b000001#6, Instr.msgtype1 (.tx PosOperand.zero)), (0b111111#6, Instr.msgtype63 (.tx PosOperand.zero))] = true := by
  decide +kernel

theorem test_decode_msgtype5_tx : decode std ⟨.msg 0b000101#6, [.stat StatOperand.zero]⟩ = .ok (.msgtype5 (.tx StatOperand.zero)) := by
  decide +kernel

theorem test_decode_kind : rowsDecode .kind []
   [(0b00#2, Instr.kindNone), (0b01#2, Instr.kindPos), (0b10#2, Instr.kindStat), (0b11#2, Instr.kindLines)] = true := by
  decide +kernel

theorem test_decode_cause : rowsDecode .cause []
   [(0b0000#4, Instr.causeOk), (0b0001#4, Instr.causeBuffered), (0b0010#4, Instr.causeDropGrammar),
    (0b0011#4, Instr.causeDropChecksum), (0b0100#4, Instr.causeDropShort), (0b0101#4, Instr.causeDropType),
    (0b0110#4, Instr.causeDropIncomplete), (0b0111#4, Instr.causeDropLimit), (0b1000#4, Instr.causeDropCapacity),
    (0b1001#4, Instr.causeEncSignedRange), (0b1010#4, Instr.causeEncUnsignedRange), (0b1011#4, Instr.causeEncType),
    (0b1100#4, Instr.causeEncChannel), (0b1101#4, Instr.causeEncArmorRange), (0b1110#4, Instr.causeIllegalOp),
    (0b1111#4, Instr.causeReserved15)] = true := by
  decide +kernel

theorem test_decode_sentence : rowsDecode .sentence [.str [0x2C#8]]
   [(0b001000010100000101001001010101100100010001001101#48, Instr.aivdm [0x2C#8]),
    (0b001000010100000101001001010101100100010001001111#48, Instr.aivdo [0x2C#8])] = true := by
  decide +kernel

theorem test_decode_cmd_plain : rowsDecode .cmd []
   [(0b000#3, Instr.nop), (0b101#3, Instr.reserved101), (0b110#3, Instr.reserved110),
    (0b111#3, Instr.reserved111)] = true := by
  decide +kernel

theorem test_decode_cmd_decode : decode std ⟨.cmd 0b001#3, [.str [0x21#8], .time 9]⟩ = .ok (.decode [0x21#8] 9) := by decide +kernel

theorem test_decode_cmd_encpos :
    decode std ⟨.cmd 0b010#3, [.pos PosOperand.zero, .draw 9]⟩ = .ok (.encpos PosOperand.zero (draw 9)) := by decide +kernel

theorem test_decode_cmd_encstat :
    decode std ⟨.cmd 0b011#3, [.stat StatOperand.zero, .draw 1]⟩ = .ok (.encstat StatOperand.zero (draw 1)) := by decide +kernel

theorem test_decode_cmd_sweep : decode std ⟨.cmd 0b100#3, [.time 5]⟩ = .ok (.sweep 5) := by decide +kernel

theorem test_decode_micro_0 : (
   [(⟨.micro .chkXor, [.str [0x41#8]]⟩, Instr.chkXor [0x41#8]),
    (⟨.micro .chkHex2, [.byte 0x42#8, .byte 0x42#8]⟩, Instr.chkHex2 0x42#8 0x42#8),
    (⟨.micro .chkVerify, [.str [0x41#8]]⟩, Instr.chkVerify [0x41#8]), (⟨.micro .parseFrame, []⟩, Instr.parseFrame),
    (⟨.micro .parseSplit, [.str [0x41#8]]⟩, Instr.parseSplit [0x41#8]),
    (⟨.micro .parseInt, [.str [0x41#8]]⟩, Instr.parseInt [0x41#8]),
    (⟨.micro .parseTotal, [.str [0x41#8]]⟩, Instr.parseTotal [0x41#8]),
    (⟨.micro .parsePart, [.str [0x41#8]]⟩, Instr.parsePart [0x41#8]),
    (⟨.micro .parseSeq, [.str [0x41#8]]⟩, Instr.parseSeq [0x41#8]),
    (⟨.micro .parseChan, [.str [0x41#8]]⟩, Instr.parseChan [0x41#8]),
    (⟨.micro .parsePayload, [.str [0x41#8]]⟩, Instr.parsePayload [0x41#8]),
    (⟨.micro .parseFill, [.str [0x41#8]]⟩, Instr.parseFill [0x41#8]),
    (⟨.micro .parseCksum, [.byte 0x42#8, .byte 0x42#8]⟩, Instr.parseCksum 0x42#8 0x42#8),
    (⟨.micro .parse, [.str [0x41#8]]⟩, Instr.parse [0x41#8]), (⟨.micro .rsmBypass, [.time 3]⟩, Instr.rsmBypass 3),
    (⟨.micro .rsmKey, []⟩, Instr.rsmKey), (⟨.micro .rsmLookup, [.key []]⟩, Instr.rsmLookup ⟨false, []⟩),
    (⟨.micro .rsmCreate, [.key [], .time 3]⟩, Instr.rsmCreate ⟨false, []⟩ 3),
    (⟨.micro .rsmStore, [.key []]⟩, Instr.rsmStore ⟨false, []⟩)]).all (fun r => decide (decode std r.1 = .ok r.2)) = true := by
  decide +kernel

theorem test_decode_micro_1 : (
   [(⟨.micro .rsmFill, [.key []]⟩, Instr.rsmFill ⟨false, []⟩), (⟨.micro .rsmCount, [.key []]⟩, Instr.rsmCount ⟨false, []⟩),
    (⟨.micro .rsmComplete, [.key []]⟩, Instr.rsmComplete ⟨false, []⟩),
    (⟨.micro .rsmCheck, [.entry ⟨⟨false, []⟩, 2, [], 0, 0⟩]⟩, Instr.rsmCheck ⟨⟨false, []⟩, 2, [], 0, 0⟩),
    (⟨.micro .rsmJoin, [.entry ⟨⟨false, []⟩, 2, [], 0, 0⟩]⟩, Instr.rsmJoin ⟨⟨false, []⟩, 2, [], 0, 0⟩),
    (⟨.micro .rsm, [.time 3]⟩, Instr.rsm 3), (⟨.micro .rsmExpire, [.time 3]⟩, Instr.rsmExpire 3),
    (⟨.micro .rsmSweep, [.time 3]⟩, Instr.rsmSweep 3), (⟨.micro .armDec6, [.byte 0x42#8]⟩, Instr.armDec6 0x42#8),
    (⟨.micro .armUnpack, []⟩, Instr.armUnpack), (⟨.micro .armStrip, []⟩, Instr.armStrip),
    (⟨.micro .armDecode, []⟩, Instr.armDecode), (⟨.micro .armPad6, []⟩, Instr.armPad6),
    (⟨.micro .armEnc6, [.int (-1)]⟩, Instr.armEnc6 (-1)), (⟨.micro .armPack, []⟩, Instr.armPack),
    (⟨.micro .armEncode, []⟩, Instr.armEncode), (⟨.micro .fldGetu, [.num 1, .num 1]⟩, Instr.fldGetu 1 1),
    (⟨.micro .fldGets, [.num 1, .num 1]⟩, Instr.fldGets 1 1), (⟨.micro .fldGett, [.num 1, .num 1]⟩, Instr.fldGett 1 1)]).all (fun r => decide (decode std r.1 = .ok r.2)) = true := by
  decide +kernel

theorem test_decode_micro_2 : (
   [(⟨.micro .fldPutu, [.reg 6, .num 1]⟩, Instr.fldPutu 6 1), (⟨.micro .fldPuts, [.reg 6, .num 1]⟩, Instr.fldPuts 6 1),
    (⟨.micro .fldPutt, [.str [0x41#8], .num 1]⟩, Instr.fldPutt [0x41#8] 1), (⟨.micro .fldType, []⟩, Instr.fldType),
    (⟨.micro .posDecode, []⟩, Instr.posDecode),
    (⟨.micro .posEncode, [.pos PosOperand.zero]⟩, Instr.posEncode PosOperand.zero),
    (⟨.micro .statDecode, []⟩, Instr.statDecode),
    (⟨.micro .statEncode, [.stat StatOperand.zero]⟩, Instr.statEncode StatOperand.zero),
    (⟨.micro .emtPad, []⟩, Instr.emtPad), (⟨.micro .emtChunk, [.str [0x41#8]]⟩, Instr.emtChunk [0x41#8]),
    (⟨.micro .emtFill, [.num 1]⟩, Instr.emtFill 1), (⟨.micro .emtSeq, [.num 1, .draw 4]⟩, Instr.emtSeq 1 (draw 4)),
    (⟨.micro .emtChan, [.str [0x41#8]]⟩, Instr.emtChan [0x41#8]),
    (⟨.micro .emtLine, [.num 1, .num 1, .str [0x41#8], .byte 0x42#8, .str [0x41#8], .num 1]⟩, Instr.emtLine 1 1 [0x41#8] 0x42#8 [0x41#8] 1),
    (⟨.micro .emtCksum, [.str [0x41#8]]⟩, Instr.emtCksum [0x41#8]),
    (⟨.micro .emt, [.str [0x41#8], .draw 4]⟩, Instr.emt [0x41#8] (draw 4)),
    (⟨.micro .decodePayload, []⟩, Instr.decodePayload)]).all (fun r => decide (decode std r.1 = .ok r.2)) = true := by
  decide +kernel

theorem test_table_word_cmd : decodeTableWord 8 0b001 = some (.decode [] 0) := by decide +kernel
theorem test_table_word_armor : decodeTableWord 8 0b01110111 = some (.armchr77 .rx) := by decide +kernel
theorem test_table_word_msg : decodeTableWord 8 0b001001 = some (.msgtype9 (.rx [])) := by decide +kernel
theorem test_table_word_sentence : decodeTableWord 48 0x21414956444F = some (.aivdo []) := by decide +kernel
theorem test_table_word_none : decodeTableWord 8 0x58 = none := by decide +kernel
theorem test_fetch_word_runs : (step (State.reset.withFetchWord 8 0b100)) =
    exec (.sweep 0) ((State.reset.withFetchWord 8 0b100).withPort []) := rfl

/-! ### Vectors of spec/95_test_vectors.md -/

/-- S1. -/
theorem test_S1_encode : answer (exec (.encpos opS1 (draw 4)) State.reset) = some ⟨.lines, .ok, .lines [lineS1]⟩ := by decide +kernel
theorem test_S1_decode : answer (exec (.decode lineS1 0) State.reset) = some ⟨.pos, .ok, .pos recS1⟩ := by decide +kernel

/-- T1: the encode; the two lines, either order (A1, P2). -/
theorem test_T1_encode :
    answer (exec (.encstat opT1 (draw 3)) State.reset) = some ⟨.lines, .ok, .lines [lineT1a, lineT1b]⟩ := by decide +kernel
theorem test_T1_first_line : table (exec (.decode lineT1a 0) State.reset) = some [entryT1a 0] := by decide +kernel
theorem test_T1_second_line :
    answer (exec (.decode lineT1b 5) (withTable [entryT1a 0])) = some ⟨.stat, .ok, .stat recT1⟩ := by decide +kernel
theorem test_P2_reverse_order :
    answer (exec (.decode lineT1a 1005) (withTable [entryT1b 1000])) = some ⟨.stat, .ok, .stat recT1⟩ := by decide +kernel

/-- P4: completion at the expiry instant, and one millisecond later. -/
theorem test_P4_tie :
    answer (exec (.decode lineT1b 31000) (withTable [entryT1a 1000])) = some ⟨.stat, .ok, .stat recT1⟩ := by decide +kernel
theorem test_P4_late :
    table (exec (.decode lineT1b 31001) (withTable [entryT1a 1000])) = some [entryT1b 31001] := by decide +kernel

/-- P3: the sweep before and at the expiry instant. -/
theorem test_P3_before : answer (exec (.sweep 30999) (withTable [entryT1a 1000])) = some ⟨.none, .ok, .count 0⟩ := by decide +kernel
theorem test_P3_at : answer (exec (.sweep 31000) (withTable [entryT1a 1000])) = some ⟨.none, .ok, .count 1⟩ := by decide +kernel

/-- A3: a later part that declares another total. -/
theorem test_A3 :
    answer (exec (.decode (ascii "!AIVDM,3,1,3,B,51mg=5@2:N2T48?7;<1@E=B1HE=<Dh0000000016<PD:<40Ht@DSm51DQ0C@,0*22") 1)
      (withTable [entryT1b 0])) = some ⟨.stat, .ok, .stat recT1⟩ := by decide +kernel

/-- A5: total 2, indices 1 and 3. -/
theorem test_A5 :
    kindCause (exec (.decode (ascii "!AIVDM,2,3,7,A,0000,0*10") 1) (withTable [⟨⟨true, ascii "7"⟩, 2, [(1, ascii "5000")], 0, 0⟩])) =
      some (.none, .dropIncomplete) := by decide +kernel

/-- W1: a sentence of another sender, every field of its record (R366), also with its checksum in lower case (K7). -/
def recW1 : PosRecord :=
  { msgType := 1, repeatInd := 0, mmsi := 477553000, navStatus := 5, rot := 0, sog := 0, posAcc := 0,
    lon := BitVec.ofInt 28 (-73407500), lat := 28549700, cog := 510, heading := 181, utcSec := 15, maneuver := 0, raim := 0,
    radio := 149208, channel := 0x42#8 }
theorem test_W1 :
    answer (exec (.decode (ascii "!AIVDM,1,1,,B,177KQJ5000G?tO`K>RA1wUbN0TKH,0*5C") 0) State.reset) =
      some ⟨.pos, .ok, .pos recW1⟩ := by decide +kernel
theorem test_K7 :
    answer (exec (.decode (ascii "!AIVDM,1,1,,B,177KQJ5000G?tO`K>RA1wUbN0TKH,0*5c") 0) State.reset) =
      some ⟨.pos, .ok, .pos recW1⟩ := by decide +kernel

/-- W2: a two-line Static message of another sender, the layout's check from outside (R366). -/
def lineW2a : Bytes := ascii "!AIVDM,2,1,3,B,55P5TL01VIaAL@7WKO@mBplU@<PDhh000000001S;AJ::4A80?4i@E53,0*3E"
def lineW2b : Bytes := ascii "!AIVDM,2,2,3,B,1@0000000000000,2*55"
def entryW2 (t : Time) : Entry := ⟨key3, 2, [(1, ascii "55P5TL01VIaAL@7WKO@mBplU@<PDhh000000001S;AJ::4A80?4i@E53")], 0, t⟩
def recW2 : StatRecord :=
  { msgType := 5, repeatInd := 0, mmsi := 369190000, aisVersion := 0, imo := 6710932, callsign := ascii "WDA9674",
    name := ascii "MT.MITCHELL", shipType := 99, toBow := 90, toStern := 90, toPort := 10, toStarboard := 10, epfd := 1,
    etaMonth := 1, etaDay := 2, etaHour := 8, etaMinute := 0, draught := 60, destination := ascii "SEATTLE", dteAvailable := 1,
    channel := 0x42#8 }
theorem test_W2_first_line : table (exec (.decode lineW2a 0) State.reset) = some [entryW2 0] := by decide +kernel
theorem test_W2_first_answer : kindCause (exec (.decode lineW2a 0) State.reset) = some (.none, .buffered) := by decide +kernel
theorem test_W2 : answer (exec (.decode lineW2b 1) (withTable [entryW2 0])) = some ⟨.stat, .ok, .stat recW2⟩ := by decide +kernel

/-- K1, K3, K4. -/
theorem test_K1 : returned (exec (.chkXor []) State.reset) = some (.byte 0x00#8) := by decide +kernel
theorem test_K3 :
    returned (exec (.chkXor (ascii "AIVDM,1,1,,A,11mg=5@P1sJe>SPGBt`>42mp0000,0")) State.reset) = some (.byte 0x50#8) := by decide +kernel
theorem test_K4 : returned (exec (.chkHex2 0x61#8 0x46#8) State.reset) = some (.byte 175) := by decide +kernel
theorem test_K4_none : returned (exec (.chkHex2 0x35#8 0x47#8) State.reset) = some .nothing := by decide +kernel

/-- K5, Q2, Q18, Q24, Q30, Q32. -/
theorem test_K5 :
    kindCause (exec (.decode (ascii "!AIVDM,1,1,,A,11mg=5@P1sJe>SPGBt`>42mp0000,0*51") 0) State.reset) =
      some (.none, .dropChecksum) := by decide +kernel
theorem test_Q2 : kindCause (exec (.decode (ascii "!") 0) State.reset) = some (.none, .dropGrammar) := by decide +kernel
theorem test_Q18 :
    kindCause (exec (.parse (ascii "!AIVDM,1,1,,A,11mg=5@P1sJe>SPGBt`>42mp000X,0*38")) State.reset) =
      some (.none, .dropGrammar) := by decide +kernel
theorem test_Q30 :
    kindCause (exec (.parse (ascii "!AIVDM,10,1,3,A,11mg=5@P1sJe>SPGBt`>42mp0000,0*53")) State.reset) =
      some (.none, .dropLimit) := by decide +kernel
theorem test_Q32 : kindCause (exec (.parse (List.replicate 83 0x21#8)) State.reset) = some (.none, .dropLimit) := by decide +kernel

/-- B1, B2, B4, B6, B7. -/
theorem test_B1_enc6 : returned (exec (.armEnc6 40) State.reset) = some (.byte 0x60#8) := by decide +kernel
theorem test_B1_enc6_low : returned (exec (.armEnc6 39) State.reset) = some (.byte 0x57#8) := by decide +kernel
theorem test_B1_dec6 : returned (exec (.armDec6 0x60#8) State.reset) = some (.nat 40) := by decide +kernel
theorem test_B1_dec6_low : returned (exec (.armDec6 0x57#8) State.reset) = some (.nat 39) := by decide +kernel
theorem test_B2 :
    buffer (exec .armUnpack (State.reset.withTr { Transients.atReset with payload := ascii "15" })) =
      some (bitsOf "000001 000101") := by decide +kernel
theorem test_B4_6 :
    buffer (exec .armStrip (State.reset.withTr { Transients.atReset with bits := bitsOf "111111000111", fill := 6 })) =
      some (bitsOf "111111000111") := by decide +kernel
theorem test_B4_7 :
    buffer (exec .armStrip (State.reset.withTr { Transients.atReset with bits := bitsOf "111111000111", fill := 7 })) =
      some (bitsOf "11111") := by decide +kernel
theorem test_B6 : buffer (exec .armPad6 (withBuffer (bitsOf "1111111"))) = some (bitsOf "111111 100000") := by decide +kernel
theorem test_B7 : returned (exec .armPack (withBuffer (bitsOf "101000"))) = some (.str (ascii "`")) := by decide +kernel
theorem test_B7_encode : returned (exec .armEncode (withBuffer (bitsOf "1"))) = some (.str (ascii "P")) := by decide +kernel

/-- F1, F3, F4, F5, F6, F15, F16, F18, F20. -/
theorem test_F1_read : returned (exec (.fldGetu 0 10) (withBuffer (bitsOf "0001111011"))) = some (.nat 123) := by decide +kernel
theorem test_F1_write : buffer (exec (.fldPutu 123 10) (withBuffer [])) = some (bitsOf "0001111011") := by decide +kernel
theorem test_F2 : kindCause (exec (.fldPutu 16 4) State.reset) = some (.none, .encUnsignedRange) := by decide +kernel
theorem test_F3 : buffer (exec (.fldPuts (-128) 8) (withBuffer [])) = some (bitsOf "10000000") := by decide +kernel
theorem test_F4 : kindCause (exec (.fldPuts 128 8) State.reset) = some (.none, .encSignedRange) := by decide +kernel
theorem test_F5 : returned (exec (.fldGets 0 8) (withBuffer (bitsOf "10000000"))) = some (.int (-128)) := by decide +kernel
theorem test_F6 :
    buffer (exec (.fldPuts 108600000 28) (withBuffer [])) = some (bitsOf "0110011110010001101011000000") := by decide +kernel
theorem test_F15 :
    buffer (exec (.fldPutt (ascii " AB ") 7) (withBuffer [])) =
      some (bitsOf "100000 000001 000010 100000 000000 000000 000000") := by decide +kernel
theorem test_F16 :
    buffer (exec (.fldPutt (ascii "A`") 3) (withBuffer [])) = some (bitsOf "000001 000000 000000") := by decide +kernel
theorem test_F18 : trimText (ascii "AB @@ @") = ascii "AB @@" := by decide +kernel
theorem test_F20 : trimText (ascii " @ @@@@") = ascii "@" := by decide +kernel
theorem test_F11 :
    returned (exec (.fldGett 0 7) (withBuffer (bitsOf "000001 000010 000000 000000 000000 000000 000000"))) =
      some (.str (ascii "AB")) := by decide +kernel

/-- R11, R194: a write of width 0 appends the empty string for 0 and faults for 1. -/
theorem test_putu_width_zero : buffer (exec (.fldPutu 0 0) (withBuffer [true])) = some [true] := by decide +kernel
theorem test_putu_width_zero_fault : kindCause (exec (.fldPutu 1 0) State.reset) = some (.none, .encUnsignedRange) := by decide +kernel

/-- F25. -/
theorem test_F25_short : kindCause (exec .fldType (withBuffer (bitsOf "00000"))) = some (.none, .dropShort) := by decide +kernel
theorem test_F25_type : kindCause (exec .fldType (withBuffer (bitsOf "111111"))) = some (.none, .dropType) := by decide +kernel
theorem test_F25_pos :
    kindCause (exec .fldType (withBuffer (bitsOf "000001" ++ List.replicate 162 false))) = some (.pos, .ok) := by decide +kernel
theorem test_F25_stat_short :
    kindCause (exec .fldType (withBuffer (bitsOf "000101" ++ List.replicate 417 false))) = some (.none, .dropShort) := by
  decide +kernel

/-- L3, L4, L10 through DECODE. -/
theorem test_L3 : kindCause (exec (.decode (ascii "!AIVDM,1,1,,A,w,7*56") 0) State.reset) = some (.none, .dropShort) := by decide +kernel
theorem test_L4 : kindCause (exec (.decode (ascii "!AIVDM,1,1,,A,w,6*57") 0) State.reset) = some (.none, .dropType) := by decide +kernel

/-- M1, M3, M8. -/
theorem test_M1 : returned (exec (.emtFill 11) State.reset) = some (.nat 6) := by decide +kernel
theorem test_M3 :
    answer (exec (.emt (ascii "A") (draw 5)) (withBuffer (bitsOf "1"))) =
      some ⟨.lines, .ok, .lines [ascii "!AIVDM,1,1,,A,P,2*74"]⟩ := by decide +kernel
theorem test_M8_second :
    returned (exec (.emtLine 2 2 (ascii "5") 0x41#8 (ascii "0") 2) State.reset) =
      some (.str (ascii "!AIVDM,2,2,5,A,0,2*21")) := by decide +kernel
theorem test_R285_example :
    returned (exec (.emtLine 1 1 [] 0x41#8 [] 0) State.reset) = some (.str (ascii "!AIVDM,1,1,,A,,0*26")) := by decide +kernel
theorem test_M8_chunks :
    (match returned (exec (.emtChunk (List.replicate 61 0x30#8)) State.reset) with
      | some (.strs l) => l.map List.length
      | _ => []) = [60, 1] := by decide +kernel

/-- E14, E17, E21: the order of the faults. -/
theorem test_E14 :
    kindCause (exec (.encpos { opS1 with msgType := 4, mmsi := -1 } (draw 5)) State.reset) =
      some (.none, .encType) := by decide +kernel
theorem test_E17 :
    kindCause (exec (.encpos { opS1 with rot := given 128, channel := [] } (draw 5)) State.reset) =
      some (.none, .encSignedRange) := by decide +kernel
theorem test_E21 :
    kindCause (exec (.encstat { opT1 with channel := [] } (draw 5)) State.reset) = some (.none, .encChannel) := by decide +kernel

/-- The rows of the two alphabets (R79, R80), a message type, a sentence. -/
theorem test_armchr_rx : buffer (exec (.armchr6D .rx) (withBuffer [true])) = some (bitsOf "1 110101") := by decide +kernel
theorem test_armchr_tx : built (exec (.armchr6D .tx) State.reset) = some (ascii "m") := by decide +kernel
theorem test_txtchr_rx : built (exec (.txtchr01 .rx) State.reset) = some (ascii "A") := by decide +kernel
theorem test_txtchr_tx : buffer (exec (.txtchr33 .tx) (withBuffer [])) = some (bitsOf "100001") := by decide +kernel
theorem test_msgtype4_rx : kindCause (exec (.msgtype4 (.rx [])) State.reset) = some (.none, .dropType) := by decide +kernel
theorem test_msgtype4_tx : kindCause (exec (.msgtype4 (.tx opS1)) State.reset) = some (.none, .encType) := by decide +kernel
theorem test_aivdo :
    (match exec (.aivdo (ascii ",1,1,,A,11mg=5@P1sJe>SPGBt`>42mp0000,0*52")) State.reset with
      | .next s => some (s.tr.tag, s.tr.total, s.tr.cksum)
      | _ => none) = some (1, 1, 0x52#8) := by decide +kernel

/-! ### Witnesses: the hypotheses of the statements can be met, clause by clause -/

def parsedT1a : Parsed := ⟨0, 2, 1, ascii "3", 0x42#8, payloadT1, 0, 0x23#8⟩
def parsedT1b : Parsed := ⟨0, 2, 2, ascii "3", 0x42#8, ascii "00000000000", 6, 0x20#8⟩
def parsedS1 : Parsed := ⟨0, 1, 1, [], 0x41#8, ascii "11mg=5@P1sJe>SPGBt`>42mp0000", 0, 0x50#8⟩

theorem parse_T1a : parseLine State.reset.cfg lineT1a = .ok parsedT1a := by decide +kernel
theorem parse_T1b : parseLine State.reset.cfg lineT1b = .ok parsedT1b := by decide +kernel
theorem parse_S1 : parseLine State.reset.cfg lineS1 = .ok parsedS1 := by decide +kernel
theorem parse_empty : parseLine State.reset.cfg [] = .error .dropGrammar := by decide +kernel

/-- Reset with room for this many entries, and this table. -/
def small (n : Nat) (rt : List Entry) : State := { State.reset with cfg := { Config.Params.default with nEntries := n }, rt := rt }

theorem good_T1a (t : Time) : tableBetween State.reset.cfg [entryT1a t] := by
  refine ⟨⟨rfl, ?_, show 1 ≤ 16 by decide⟩, ?_⟩
  · intro e he
    simp only [List.mem_singleton] at he
    subst he
    show key3.wf = true
    decide +kernel
  · intro e he
    simp only [List.mem_singleton] at he
    subst he
    exact ⟨by simp [partCount, entryT1a], by simp [entryT1a, State.reset, Config.Params.default], by
      intro p hp; simp only [entryT1a, List.mem_singleton] at hp; subst hp; decide, by
      intro p hp; simp only [entryT1a, List.mem_singleton] at hp; subst hp; decide +kernel⟩

/-- A full table: as many entries as there is room for. -/
theorem full_T1a (t : Time) : tableInv (small 1 [entryT1a t]).cfg (small 1 [entryT1a t]).rt := by
  refine ⟨rfl, ?_, show 1 ≤ 1 by decide⟩
  intro e he
  simp only [small, List.mem_singleton] at he
  subst he
  show key3.wf = true
  decide +kernel

theorem witness_StepRunsDecodedCommand :
    (State.reset.withPort [encode .nop]).port = encode .nop :: [] ∧ decode State.reset.cfg (encode .nop) = .ok .nop ∧ State.reset.port = [] ∧
    (State.reset.withPort [⟨.unassigned 0, []⟩]).port = ⟨.unassigned 0, []⟩ :: [] ∧
    decode std ⟨.unassigned 0, []⟩ = .error .noSuchCode := by decide +kernel

theorem witness_DecodeReadsEncodedInstruction :
    WellFormed std (.encpos { opS1 with channel := List.replicate 255 0x41#8 } (draw 9)) = true ∧ WellFormed std (.fldGetu 0 1) = true ∧
    WellFormed std (.emtLine 1 1 [] 0x41#8 [] 0) = true ∧ WellFormed std (.rsmStore key3) = true := by decide +kernel

theorem witness_EncodeRestoresDecodedCommand : decode std ⟨.cmd 0b010#3, [.pos opS1, .draw 1]⟩ = .ok (.encpos opS1 (draw 1)) := by
  decide +kernel

theorem witness_EveryStepKeepsTableInvariant :
    tableInv (small 1 [entryT1a 0]).cfg (small 1 [entryT1a 0]).rt ∧
    timesFit (small 1 [entryT1a (2 ^ 64 - 1)]).cfg (small 1 [entryT1a (2 ^ 64 - 1)]).rt ∧
    step ((small 1 [entryT1a 0]).withPort [encode (.rsmExpire 0)]) =
      exec (.rsmExpire 0) (((small 1 [entryT1a 0]).withPort [encode (.rsmExpire 0)]).withPort []) :=
  ⟨full_T1a 0, by intro e he; rw [List.mem_singleton.1 he]; decide, rfl⟩

theorem witness_EveryStepKeepsParameters :
    ∃ t, step ((small 1 []).withPort [encode (.sweep 7)]) = .next t ∧ t.cfg = (small 1 []).cfg := ⟨_, rfl, rfl⟩

theorem witness_OperationsKeepEntriesIncomplete :
    (isHostOp (.decode lineT1b 1) = true ∧ isArbiter (.rsmSweep 1) = true) ∧
    tableBetween (withTable [entryT1a 0]).cfg (withTable [entryT1a 0]).rt ∧
    (∃ t, exec (.decode lineT1b 1) (withTable [entryT1a 0]) = .next t) ∧
    (∃ t, exec (.rsmSweep 1) (withTable [entryT1a 0]) = .next t) :=
  ⟨⟨rfl, rfl⟩, good_T1a 0, ⟨_, rfl⟩, ⟨_, rfl⟩⟩

theorem witness_OperationsIgnoreTransients : isHostOp .nop = true ∧ isHostOp (.encstat opT1 (draw 1)) = true := by decide

theorem witness_AgeSaturatesAndStoringKeepsIt :
    (entryT1a 1000).created ≤ (1000 : Time) ∧ (999 : Time) < (entryT1a 1000).created := by decide

theorem witness_DecodeIsItsMicroOperations :
    parseLine State.reset.cfg [] = .error .dropGrammar ∧ parseLine State.reset.cfg lineS1 = .ok parsedS1 :=
  ⟨parse_empty, parse_S1⟩

theorem witness_DroppedSentenceOnlyLetsTimeAct :
    parseLine State.reset.cfg [] = .error .dropGrammar ∧ (∀ j ∈ [Instr.nop, .sweep 0], isHostOp j = true) ∧
    isHostOp (.decode lineS1 0) = true := ⟨parse_empty, by decide, rfl⟩

theorem witness_ChangedBodyByteYieldsNoRecord :
    parseLine State.reset.cfg lineS1 = .ok parsedS1 ∧ 1 + 3 < lineS1.length ∧ lineS1.getD 1 0 ≠ 0x42#8 ∧
    43 + 3 < lineS1.length ∧ lineS1.getD 43 0 ≠ 0x31#8 ∧ ¬ 44 + 3 < lineS1.length := by decide +kernel

/-- The groups of line S1. -/
def groupsS1 : Groups :=
  ⟨ascii "AIVDM", ascii "1", ascii "1", [], 0x41#8, ascii "11mg=5@P1sJe>SPGBt`>42mp0000", ascii "0", 0x35#8, 0x30#8⟩

theorem groupsS1_ok : groupsS1.ok := by unfold Groups.ok; decide +kernel

theorem witness_ParseAdmitsTheGrammar :
    groupsS1.line = lineS1 ∧ groupsS1.line.length ≤ State.reset.cfg.sentMax ∧
    decimalValue groupsS1.total ≤ State.reset.cfg.partsMax ∧ decimalValue groupsS1.part ≤ State.reset.cfg.partsMax ∧
    (0 : Fin 8).val = decimalValue groupsS1.fill ∧
    (∀ i, i < 8 → (BitVec.ofNat 8 groupsS1.checksum).getLsbD i = parityBit groupsS1.body i) := by decide +kernel

theorem witness_ParseDropsWhatIsNotTheGrammar :
    ([] : Bytes).length ≤ State.reset.cfg.sentMax ∧ ¬ ∃ g : Groups, g.ok ∧ g.line = [] :=
  ⟨by decide, fun ⟨g, _, h⟩ => by simp [Groups.line] at h⟩

/-- As line S1, with a total above PARTS_MAX, a part above it, and a wrong checksum digit. -/
def groupsTotal10 : Groups :=
  ⟨ascii "AIVDM", ascii "10", ascii "1", [], 0x41#8, ascii "11mg=5@P1sJe>SPGBt`>42mp0000", ascii "0", 0x35#8, 0x30#8⟩
def groupsPart10 : Groups :=
  ⟨ascii "AIVDM", ascii "1", ascii "10", [], 0x41#8, ascii "11mg=5@P1sJe>SPGBt`>42mp0000", ascii "0", 0x35#8, 0x30#8⟩
def groupsWrong : Groups :=
  ⟨ascii "AIVDM", ascii "1", ascii "1", [], 0x41#8, ascii "11mg=5@P1sJe>SPGBt`>42mp0000", ascii "0", 0x35#8, 0x31#8⟩

theorem groupsTotal10_ok : groupsTotal10.ok := by unfold Groups.ok; decide +kernel
theorem groupsPart10_ok : groupsPart10.ok := by unfold Groups.ok; decide +kernel
theorem groupsWrong_ok : groupsWrong.ok := by unfold Groups.ok; decide +kernel

theorem witness_ParseOrdersItsVerdicts :
    State.reset.cfg.sentMax < (List.replicate 83 0x21#8 : Bytes).length ∧
    (groupsTotal10.line.length ≤ State.reset.cfg.sentMax ∧ State.reset.cfg.partsMax < decimalValue groupsTotal10.total) ∧
    (groupsPart10.line.length ≤ State.reset.cfg.sentMax ∧ State.reset.cfg.partsMax < decimalValue groupsPart10.part) ∧
    (groupsWrong.line.length ≤ State.reset.cfg.sentMax ∧ decimalValue groupsWrong.total ≤ State.reset.cfg.partsMax ∧
      decimalValue groupsWrong.part ≤ State.reset.cfg.partsMax ∧
      (BitVec.ofNat 8 groupsWrong.checksum).getLsbD 0 ≠ parityBit groupsWrong.body 0) := by decide +kernel

theorem witness_ChecksumOperations :
    (hexVal 0x39#8 = some 9 ∧ hexVal 0x41#8 = some 10 ∧ hexVal 0x66#8 = some 15) ∧
    (hexVal 0x3A#8 = none ∧ hexVal 0x40#8 = none ∧ hexVal 0x67#8 = none) ∧
    (∀ i, i < 8 → State.reset.tr.cksum.getLsbD i = parityBit [] i) ∧
    State.reset.tr.cksum.getLsbD 0 ≠ parityBit [0x01#8] 0 := by decide +kernel

theorem witness_FrameAndSplit :
    (0x2A#8 ∉ ([] : Bytes) ∧
      (State.reset.withTr { Transients.atReset with line := [0x21#8, 0x2A#8, 0x30#8, 0x30#8] }).tr.line =
        [0x21#8] ++ [] ++ [0x2A#8, 0x30#8, 0x30#8]) ∧
    (¬ ∃ body h l, 0x2A#8 ∉ body ∧ State.reset.tr.line = [0x21#8] ++ body ++ [0x2A#8, h, l]) ∧
    (∀ f ∈ [aivdmBytes, [], [], [], [], [], []], 0x2C#8 ∉ f) ∧ (∀ f ∈ [aivdoBytes, [], [], [], [], [], []], 0x2C#8 ∉ f) ∧
    (([] : Bytes) ≠ aivdmBytes ∧ ([] : Bytes) ≠ aivdoBytes) ∧
    (([] : Bytes).filter (fun c => c == 0x2C#8)).length ≠ 6 ∧
    ((List.replicate 7 0x2C#8 : Bytes).filter (fun c => c == 0x2C#8)).length ≠ 6 := by
  refine ⟨by decide, fun ⟨body, h, l, _, e⟩ => ?_, by decide, by decide, by decide, by decide, by decide⟩
  simp [State.reset, Transients.atReset] at e

theorem witness_SentenceFieldOperations :
    (∀ f ∈ [ascii "1", ascii "9"], f ≠ [] ∧ f.all isDecimal = true ∧ 1 ≤ decimalValue f ∧
      decimalValue f ≤ State.reset.cfg.partsMax) ∧
    (ascii "10").all isDecimal = true ∧ State.reset.cfg.partsMax < decimalValue (ascii "10") ∧
    (ascii "+").all isDecimal = false ∧ decimalValue (ascii "00") = 0 ∧
    (∀ c ∈ ascii " ~", 0x20 ≤ c.toNat ∧ c.toNat ≤ 0x7E) ∧ (∃ c ∈ ([0x1F#8] : Bytes), c.toNat < 0x20 ∨ 0x7E < c.toNat) ∧
    (∃ c ∈ ([0x7F#8] : Bytes), c.toNat < 0x20 ∨ 0x7E < c.toNat) ∧
    (ascii "A" = [0x41#8] ∧ ascii "B" = [0x42#8] ∧ ascii "C" ≠ [0x41#8] ∧ ascii "C" ≠ [0x42#8]) ∧
    (∀ c ∈ ascii "0W`w", (0x30 ≤ c.toNat ∧ c.toNat ≤ 0x57) ∨ (0x60 ≤ c.toNat ∧ c.toNat ≤ 0x77)) ∧
    (∃ c ∈ ascii "X", ¬ ((0x30 ≤ c.toNat ∧ c.toNat ≤ 0x57) ∨ (0x60 ≤ c.toNat ∧ c.toNat ≤ 0x77))) ∧
    decimalValue (ascii "0") = (0 : Fin 8).val ∧ decimalValue (ascii "7") = (7 : Fin 8).val ∧ 7 < decimalValue (ascii "8") ∧
    hexVal 0x30#8 = some 0 ∧ hexVal 0x47#8 = none := by decide +kernel

theorem witness_BypassGoesByTotal :
    State.reset.tr.total = 1 ∧ (State.reset.withTr { Transients.atReset with total := 2 }).tr.total ≠ 1 := by decide

theorem witness_KeyLookupCreate :
    (tableGet State.reset.rt key3 = none ∧ State.reset.rt.length < State.reset.cfg.nEntries) ∧
    (tableGet (small 1 [entryT1a 0]).rt ⟨false, []⟩ = none ∧
      (small 1 [entryT1a 0]).cfg.nEntries ≤ (small 1 [entryT1a 0]).rt.length) ∧
    tableGet (small 1 [entryT1a 0]).rt key3 = some (entryT1a 0) := by decide +kernel

theorem witness_StoreFillCount :
    tableGet (withTable [entryT1a 0]).rt key3 = some (entryT1a 0) ∧ tableGet State.reset.rt key3 = none := by decide +kernel

theorem witness_StoreFillCount_inv : tableInv (withTable [entryT1a 0]).cfg (withTable [entryT1a 0]).rt := (good_T1a 0).1

/-- An entry whose count equals its total with every index present, and one with an index missing. -/
def entryWhole : Entry := ⟨key3, 2, [(1, ascii "5"), (2, ascii "0")], 6, 0⟩
def entryGap : Entry := ⟨key3, 2, [(1, ascii "5"), (3, ascii "0")], 0, 0⟩

theorem whole_entryWhole : wholeEntry entryWhole := by
  intro i h1 h2
  have h : i = 1 ∨ i = 2 := by simp only [entryWhole] at h2; omega
  rcases h with rfl | rfl <;> decide

theorem gap_entryGap : ¬ wholeEntry entryGap := fun h => h 2 (by decide) (by decide) (by decide)

theorem witness_CompleteCheckJoin :
    (tableGet (withTable [entryT1a 0]).rt key3 = some (entryT1a 0) ∧ (entryT1a 0).parts.length ≠ (entryT1a 0).total) ∧
    (tableGet (withTable [entryWhole]).rt key3 = some entryWhole ∧ entryWhole.parts.length = entryWhole.total) ∧
    (tableGet (withTable [entryGap]).rt key3 = some entryGap ∧ entryGap.parts.length = entryGap.total) ∧
    tableGet State.reset.rt key3 = none := by decide +kernel

theorem witness_CompleteCheckJoin_check : wholeEntry entryWhole ∧ ¬ wholeEntry entryGap := ⟨whole_entryWhole, gap_entryGap⟩

/-- The registers as after PARSE of line T1b, over this table. -/
def afterT1b (s : State) : State := s.withTr (s.tr.withParsed parsedT1b)

theorem witness_ReassemblyIsItsMicroOperations :
    (if (afterT1b State.reset).tr.seq = [] then (⟨false, []⟩ : Key) else ⟨true, (afterT1b State.reset).tr.seq⟩) = key3 ∧
    tableGet (afterT1b (small 1 [entryT1a 0])).rt key3 = some (entryT1a 0) ∧
    (tableGet (afterT1b (small 1 [])).rt key3 = none ∧
      (afterT1b (small 1 [])).rt.length < (afterT1b (small 1 [])).cfg.nEntries) ∧
    (tableGet (afterT1b (small 0 [])).rt key3 = none ∧
      (afterT1b (small 0 [])).cfg.nEntries ≤ (afterT1b (small 0 [])).rt.length) := by decide +kernel

theorem witness_ReassemblyIsItsMicroOperations_inv :
    tableInv (afterT1b (small 1 [entryT1a 0])).cfg (afterT1b (small 1 [entryT1a 0])).rt ∧
    tableInv (afterT1b (small 1 [])).cfg (afterT1b (small 1 [])).rt ∧
    tableInv (afterT1b (small 0 [])).cfg (afterT1b (small 0 [])).rt := by
  refine ⟨full_T1a 0, ?_, ?_⟩ <;> exact ⟨rfl, by simp [small, afterT1b], by decide⟩

/-- A run with sweeps of the arbiter between two parts of a message, at the latest instant before the second. -/
def arbiterRun : List Instr := [.decode lineT1a 1000, .rsmSweep 30999, .nop, .sweep 30999, .decode lineT1b 31000, .rsmSweep 31000]

theorem witness_ArbiterScheduleIsInvisible :
    (∀ i ∈ arbiterRun, isHostOp i = true ∨ isArbiter i = true) ∧
    arbiterRun.Pairwise (fun a b => ∀ t' line t, a = .rsmSweep t' → b = .decode line t → t' < t) := by
  refine ⟨List.forall_mem_cons.2 ⟨Or.inl rfl, List.forall_mem_cons.2 ⟨Or.inr rfl, List.forall_mem_cons.2 ⟨Or.inl rfl,
    List.forall_mem_cons.2 ⟨Or.inl rfl, List.forall_mem_cons.2 ⟨Or.inl rfl, List.forall_mem_cons.2 ⟨Or.inr rfl,
    fun _ h => absurd h List.not_mem_nil⟩⟩⟩⟩⟩⟩, ?_⟩
  simp only [arbiterRun, List.pairwise_cons, List.mem_cons, List.not_mem_nil, or_false, forall_eq_or_imp, forall_eq,
    List.Pairwise.nil, and_true, false_implies, implies_true]
  refine ⟨⟨?_, ?_, ?_, ?_, ?_⟩, ⟨?_, ?_, ?_, ?_⟩, ⟨?_, ?_, ?_⟩, ⟨?_, ?_⟩, ?_⟩ <;> intro t' l t h h' <;>
    cases h <;> (cases h'; try decide)

theorem witness_OccupancyIsBoundedByAge : tableInv (small 1 [entryT1a 0]).cfg (small 1 [entryT1a 0]).rt := full_T1a 0

theorem witness_OccupancyIsBoundedByAge_keys :
    parseLine State.reset.cfg lineT1a = .ok parsedT1a ∧ parsedT1a.total ≠ 1 ∧ (⟨false, []⟩ : Key) ≠ rsmKey parsedT1a.seq ∧
    parseLine State.reset.cfg lineS1 = .ok parsedS1 ∧ ¬ parsedS1.total ≠ 1 ∧ parseLine State.reset.cfg [] = .error .dropGrammar := by
  decide +kernel

theorem witness_CompletingPartDeliversJoinedMessage :
    parsedT1b.total ≠ 1 ∧ tableGet (withTable [entryT1a 1000]).rt (rsmKey parsedT1b.seq) = some (entryT1a 1000) ∧
    age (entryT1a 1000) 31000 ≤ 30000 ∧
    (putPart (entryT1a 1000).parts parsedT1b.part parsedT1b.payload).length = (entryT1a 1000).total ∧
    (partsComplete (afterPart (entryT1a 1000) parsedT1b.part parsedT1b.payload parsedT1b.fill) = true) := by decide +kernel

theorem witness_CompletingPartDeliversJoinedMessage_inv :
    tableInv (withTable [entryT1a 1000]).cfg (withTable [entryT1a 1000]).rt ∧
    parseLine (withTable [entryT1a 1000]).cfg lineT1b = .ok parsedT1b ∧
    wholeEntry (afterPart (entryT1a 1000) parsedT1b.part parsedT1b.payload parsedT1b.fill) := by
  refine ⟨(good_T1a 1000).1, parse_T1b, fun i h1 h2 => ?_⟩
  have h : i = 1 ∨ i = 2 := by simp only [afterPart, entryT1a] at h2; omega
  rcases h with rfl | rfl <;> decide +kernel

theorem witness_StoredPartKeepsTotalAndCreation :
    parsedT1a.total ≠ 1 ∧ tableGet (withTable [entryT1a 1000]).rt (rsmKey parsedT1a.seq) = some (entryT1a 1000) ∧
    age (entryT1a 1000) 30999 < 30000 ∧ age (entryT1a 1000) 31000 = 30000 ∧
    (putPart (entryT1a 1000).parts parsedT1a.part parsedT1a.payload).length ≠ (entryT1a 1000).total := by decide +kernel

theorem witness_StoredPartKeepsTotalAndCreation_inv :
    tableInv (withTable [entryT1a 1000]).cfg (withTable [entryT1a 1000]).rt ∧
    parseLine (withTable [entryT1a 1000]).cfg lineT1a = .ok parsedT1a := ⟨(good_T1a 1000).1, parse_T1a⟩

theorem witness_FirstPartOpensEntryOrIsDropped :
    (tableInv (small 1 []).cfg (small 1 []).rt ∧ parseLine (small 1 []).cfg lineT1b = .ok parsedT1b ∧ parsedT1b.total ≠ 1 ∧
      tableGet ((small 1 []).rt.filter (fun x => decide (age x 0 ≤ 30000))) (rsmKey parsedT1b.seq) = none ∧
      ((small 1 []).rt.filter (fun x => decide (age x 0 ≤ 30000))).length < (small 1 []).cfg.nEntries) ∧
    (tableInv (small 0 []).cfg (small 0 []).rt ∧ parseLine (small 0 []).cfg lineT1b = .ok parsedT1b ∧
      tableGet ((small 0 []).rt.filter (fun x => decide (age x 0 ≤ 30000))) (rsmKey parsedT1b.seq) = none ∧
      (small 0 []).cfg.nEntries ≤ ((small 0 []).rt.filter (fun x => decide (age x 0 ≤ 30000))).length) := by
  refine ⟨⟨⟨rfl, by simp [small], by decide⟩, by decide +kernel, by decide, rfl, by decide⟩,
    ⟨⟨rfl, by simp [small], by decide⟩, by decide +kernel, rfl, by decide⟩⟩

theorem witness_PartsReassembleInAnyOrder :
    tableInv State.reset.cfg State.reset.rt ∧ 2 ≤ 2 ∧ tableGet State.reset.rt (rsmKey (ascii "3")) = none ∧
    State.reset.rt.length < State.reset.cfg.nEntries ∧
    (∀ i, 1 ≤ i → i ≤ 2 →
      parseLine State.reset.cfg (if i = 1 then lineT1a else lineT1b) = .ok (if i = 1 then parsedT1a else parsedT1b) ∧
        (if i = 1 then parsedT1a else parsedT1b).total = 2 ∧ (if i = 1 then parsedT1a else parsedT1b).part = i ∧
        (if i = 1 then parsedT1a else parsedT1b).seq = ascii "3") ∧
    ([2] ++ [1]).Perm ((List.range 2).map (· + 1)) ∧ ([1] ++ [2]).Perm ((List.range 2).map (· + 1)) := by
  refine ⟨⟨rfl, by simp [State.reset], by decide⟩, by decide, rfl, by decide, fun i h1 h2 => ?_, by decide, by decide⟩
  have h : i = 1 ∨ i = 2 := by omega
  rcases h with rfl | rfl
  · exact ⟨parse_T1a, rfl, rfl, rfl⟩
  · exact ⟨parse_T1b, rfl, rfl, rfl⟩

theorem witness_ArmorInverseLaws :
    (0 < 64 ∧ 63 < 64) ∧ (isArmor 0x30#8 = true ∧ isArmor 0x57#8 = true ∧ isArmor 0x60#8 = true ∧ isArmor 0x77#8 = true) ∧
    (isArmor 0x2F#8 = false ∧ isArmor 0x58#8 = false ∧ isArmor 0x5F#8 = false ∧ isArmor 0x78#8 = false) ∧
    (bitsOf "101000").length % 6 = 0 := by decide +kernel

theorem witness_ArmorDecodeOperations :
    isArmor 0x77#8 = true ∧ (State.reset.withTr { Transients.atReset with payload := ascii "w" }).tr.payload[0]? = some 0x77#8 ∧
    State.reset.tr.fill = 0 ∧ (State.reset.withTr { Transients.atReset with fill := 6 }).tr.fill = 6 ∧
    (let s := State.reset.withTr { Transients.atReset with fill := 7, bits := bitsOf "1111111" }
     s.tr.fill ≠ 0 ∧ s.tr.fill ≠ 6 ∧ s.tr.bits.length ≤ s.tr.fill.val) ∧
    (let s := State.reset.withTr { Transients.atReset with fill := 5, bits := bitsOf "111111" }
     s.tr.fill ≠ 0 ∧ s.tr.fill ≠ 6 ∧ s.tr.fill.val < s.tr.bits.length) := by decide +kernel

theorem witness_ArmorEncodeOperations :
    ((0 : Int) ≤ 0 ∧ (0 : Int) < 40 ∧ (39 : Int) < 40) ∧ ((40 : Int) ≤ 40 ∧ (63 : Int) ≤ 63) ∧ ((-1 : Int) < 0 ∧ (63 : Int) < 64) ∧
    (withBuffer (bitsOf "101000")).tr.bits.length % 6 = 0 := by decide +kernel

theorem witness_UnpackIsTheRowsInTurn : ∀ c ∈ ascii "0W`w", isArmor c = true := by decide +kernel

theorem witness_BitStringsAsNumbers :
    bitsOf "0" ≠ [] ∧ (bitsOf "0").head? = some false ∧ (bitsOf "1").head? = some true := by decide +kernel

theorem witness_FieldReads :
    (1 ≤ 1 ∧ 0 + 1 ≤ (withBuffer [true]).tr.bits.length) ∧ 1 + 6 * 0 ≤ (withBuffer [true]).tr.bits.length ∧
    0 + 6 * 1 ≤ (withBuffer (bitsOf "000001")).tr.bits.length := by decide +kernel

theorem witness_FieldWrites :
    (0 ≤ (15 : RecInt) ∧ (15 : RecInt) < 2 ^ 4) ∧ (0 ≤ (0 : RecInt) ∧ (0 : RecInt) < 2 ^ 0) ∧ (2 ^ 4 ≤ (16 : RecInt)) ∧
    (-1 : RecInt) < 0 ∧
    (-(2 ^ (8 - 1)) ≤ (-128 : RecInt) ∧ (127 : RecInt) ≤ 2 ^ (8 - 1) - 1) ∧
    (-129 : RecInt) < -(2 ^ (8 - 1)) ∧ 2 ^ (8 - 1) - 1 < (128 : RecInt) := by decide +kernel

theorem witness_FieldMirrorLaws :
    (1 ≤ 1 ∧ 0 ≤ (1 : RecInt) ∧ (1 : RecInt) < 2 ^ 1) ∧
    (-(2 ^ (1 - 1)) ≤ (-1 : RecInt) ∧ (0 : RecInt) ≤ 2 ^ (1 - 1) - 1) ∧
    (let text := ascii "@A B_"
     text.length ≤ 5 ∧ (∀ c ∈ text, 0x20 ≤ c.toNat ∧ c.toNat ≤ 0x5F) ∧ text.head? ≠ some 0x20#8 ∧
       text.getLast? ≠ some 0x20#8 ∧ text.getLast? ≠ some 0x40#8) := by decide +kernel

/-- A bit string of this length whose first six bits spell `ty`. -/
def message (ty len : Nat) : Bits := bitsW 6 ty ++ List.replicate (len - 6) false

theorem witness_TypeChoosesTheLayout :
    (withBuffer (bitsOf "00000")).tr.bits.length < 6 ∧
    (∀ ty ∈ [0, 1, 2, 3, 4, 5, 6, 63], uint ((message ty 6).take 6) = ty ∧ (message ty 6).length = 6) ∧
    (message 5 423).length < 424 ∧ 424 ≤ (message 5 424).length ∧ uint ((message 5 424).take 6) = 5 ∧
    (message 1 167).length < 168 ∧ 168 ≤ (message 3 168).length ∧ uint ((message 3 168).take 6) = 3 ∧
    4 ∉ [1, 2, 3, 5] := by decide +kernel

theorem witness_PositionDecodeReadsLayout : 168 ≤ (withBuffer (message 1 168)).tr.bits.length := by decide +kernel
theorem witness_StaticDecodeReadsLayout : 424 ≤ (withBuffer (message 5 424)).tr.bits.length := by decide +kernel

theorem witness_PositionEncodePacksOrFaults :
    firstFailure (posChecks { opS1 with msgType := 4 }) = some .encType ∧
    firstFailure (posChecks { opS1 with rot := given 128, radio := 524288 }) = some .encSignedRange ∧
    firstFailure (posChecks { opS1 with radio := 524288 }) = some .encUnsignedRange ∧
    firstFailure (posChecks { opS1 with radio := 524287, rot := ⟨false, 128⟩ }) = none := by decide +kernel

theorem witness_StaticEncodePacksOrFaults :
    firstFailure (statChecks { opT1 with draught := 256 }) = some .encUnsignedRange ∧
    firstFailure (statChecks { opT1 with draught := 255 }) = none := by decide +kernel

theorem witness_PositionRoundTrip :
    firstFailure (posChecks opS1 ++ [chanCheck opS1.channel]) = none ∧ opS1.channel = [0x41#8] ∧
    47 ≤ State.reset.cfg.sentMax ∧ 1 ≤ State.reset.cfg.partsMax ∧
    (∀ ty ∈ [1, 2, 3], (message ty 168).length = 168 ∧ uint ((message ty 168).take 6) = ty ∧
      ((message ty 168).drop 145).take 3 = [false, false, false]) := by decide +kernel

theorem witness_StaticRoundTrip :
    firstFailure (statChecks opT1 ++ [chanCheck opT1.channel]) = none ∧ opT1.channel = [0x42#8] ∧
    (0 : Time) ≤ (29999 : Time) ∧ (29999 : Time) < (0 : Time) + 30000 ∧
    80 ≤ State.reset.cfg.sentMax ∧ 2 ≤ State.reset.cfg.partsMax ∧ tableGet State.reset.rt ⟨true, dec (draw 3).digit⟩ = none ∧
    State.reset.rt.length < State.reset.cfg.nEntries := by decide +kernel

theorem witness_StaticRoundTrip_inv : tableInv State.reset.cfg State.reset.rt := ⟨rfl, by simp [State.reset], by decide⟩

theorem witness_EncodesEmitLinesOrFault :
    firstFailure (posChecks opS1 ++ [chanCheck []]) = some .encChannel ∧
    firstFailure (posChecks opS1 ++ [chanCheck opS1.channel]) = none ∧
    firstFailure (statChecks opT1 ++ [chanCheck (ascii "C")]) = some .encChannel ∧
    firstFailure (statChecks opT1 ++ [chanCheck opT1.channel]) = none := by decide +kernel

theorem witness_EmitterPieces :
    ascii "0" ≠ [] ∧ 2 ≠ 1 ∧ (0x41#8 = 0x41#8 ∨ 0x41#8 = 0x42#8) ∧ (([] : Bytes) ≠ [0x41#8] ∧ ([] : Bytes) ≠ [0x42#8]) ∧
    (1 ≤ 1 ∧ 1 ≤ 1) ∧ (1 ≤ 2 ∧ 2 ≤ 2) := by decide +kernel

theorem witness_EmitWritesOneLinePerChunk :
    (withBuffer [true]).tr.bits ≠ [] ∧ (ascii "AB" ≠ [0x41#8] ∧ ascii "AB" ≠ [0x42#8]) := by decide +kernel

theorem witness_EmittedLinesAreAdmitted :
    (withBuffer [true]).tr.bits ≠ [] ∧ (ascii "!AIVDM,1,1,,A,P,2*74").length ≤ State.reset.cfg.sentMax ∧
    1 ≤ State.reset.cfg.partsMax := by decide +kernel

theorem witness_MessageTypeRows :
    (1, Instr.msgtype1) ∈ posTypeInstrs ∧ (63, Instr.msgtype63) ∈ posTypeInstrs ∧ 1 ∈ [1, 2, 3] ∧ 63 ∉ [1, 2, 3] ∧
    168 ≤ 6 + (List.replicate 162 false).length ∧ 6 + (List.replicate 161 false).length < 168 ∧
    424 ≤ 6 + (List.replicate 418 false).length ∧ 6 + (List.replicate 417 false).length < 424 := by
  refine ⟨List.mem_of_getElem? (i := 1) rfl, List.mem_of_getElem? (i := 62) rfl, by decide, by decide, ?_⟩
  simp only [List.length_replicate]
  decide

theorem witness_SentenceRowsParse :
    (parseLine State.reset.cfg ([0x21#8] ++ aivdmBytes ++ ascii ",1,1,,A,11mg=5@P1sJe>SPGBt`>42mp0000,0*50") = .ok parsedS1) ∧
    (parseLine State.reset.cfg ([0x21#8] ++ aivdoBytes ++ ascii ",1,1,,A,11mg=5@P1sJe>SPGBt`>42mp0000,0*52") =
      .ok { parsedS1 with tag := 1, cksum := 0x52#8 }) ∧
    parseLine State.reset.cfg ([0x21#8] ++ aivdmBytes ++ []) = .error .dropGrammar ∧
    parseLine State.reset.cfg ([0x21#8] ++ aivdoBytes ++ []) = .error .dropGrammar := by decide +kernel

theorem witness_ReservedCodesOnlyAnswerIllegal :
    Instr.reserved101 ∈ [Instr.reserved101, Instr.reserved110, Instr.reserved111] ∧
    Instr.reserved111 ∈ [Instr.reserved101, Instr.reserved110, Instr.reserved111] := by simp

theorem witness_RowLists :
    (0x30#8, 0, Instr.armchr30) ∈ armorInstrs ∧ (0x77#8, 63, Instr.armchr77) ∈ armorInstrs ∧
    (0, 0x40#8, Instr.txtchr00) ∈ textInstrs ∧ (63, 0x3F#8, Instr.txtchr63) ∈ textInstrs ∧
    (Instr.causeDropGrammar, .dropGrammar) ∈ abortInstrs ∧ (Instr.causeEncArmorRange, .encArmorRange) ∈ abortInstrs := by
  exact ⟨List.mem_of_getElem? (i := 0) rfl, List.mem_of_getElem? (i := 63) rfl, List.mem_of_getElem? (i := 0) rfl,
    List.mem_of_getElem? (i := 63) rfl, List.mem_of_getElem? (i := 0) rfl, List.mem_of_getElem? (i := abortInstrs.length - 1) rfl⟩

theorem witness_ArmorRowsAppend : (0x30#8, 0, Instr.armchr30) ∈ armorInstrs := witness_RowLists.1
theorem witness_TextRowsAppend : (0, 0x40#8, Instr.txtchr00) ∈ textInstrs := witness_RowLists.2.2.1
theorem witness_ResponseRows : (Instr.causeDropGrammar, .dropGrammar) ∈ abortInstrs := witness_RowLists.2.2.2.2.1
theorem witness_SweepEvictsAndCounts : State.reset.rt = [] := rfl

end Sys2Proof.Tests
end

section
/-! SUPPORT. What an instruction can do to the reassembly table and to the parameters (spec 10_state.md R20 to R27, R41): one
inversion lemma over the rows of the opcode table, and the invariants of RT that each of those writes keeps. -/

namespace Sys2Proof.Machine

variable {cfg : Config.Params} {rt : List Entry} {i : Instr} {s t : State}

/-! ### The parser's answer -/

/-- A step of the pseudocode answers only if the step before it does. -/
theorem exists_of_bind_eq_ok {ε α β : Type} {x : Except ε α} {f : α → Except ε β} {b : β} (h : x >>= f = .ok b) :
    ∃ a, x = .ok a ∧ f a = .ok b := by
  cases x with
  | error e => cases h
  | ok a => exact ⟨a, rfl, h⟩

/-- R106, R107: an admitted count is positive and at most PARTS_MAX. -/
theorem countOf_eq_ok {f : Bytes} {v : Nat} (h : countOf cfg f = .ok v) : intOf f = some v ∧ 1 ≤ v ∧ v ≤ cfg.partsMax := by
  unfold countOf at h
  split at h
  · cases h
  · next n hn =>
    split at h
    · cases h
    · split at h
      · cases h
      · cases h
        exact ⟨hn, by omega, by omega⟩

/-- R110: an admitted payload is the field itself, over the alphabet. -/
theorem payloadOf_eq_ok {f v : Bytes} (h : payloadOf f = .ok v) : v = f ∧ ∀ c ∈ v, isArmor c = true := by
  unfold payloadOf at h
  split at h
  · next hf => cases h; exact ⟨rfl, List.all_eq_true.1 hf⟩
  · cases h

/-- R113: an admitted line is within SENT_MAX, each step of PARSE answered on its own piece of it, and the checksum agrees. -/
theorem parseLine_eq_ok {line : Bytes} {p : Parsed} (h : parseLine cfg line = .ok p) :
    line.length ≤ cfg.sentMax ∧ ∃ fr f, frameOf line = .ok fr ∧ fieldsOf fr.body = .ok f ∧ tagOf f.f0 = .ok p.tag ∧
      countOf cfg f.f1 = .ok p.total ∧ countOf cfg f.f2 = .ok p.part ∧ seqOf f.f3 = .ok p.seq ∧ chanOf f.f4 = .ok p.chan ∧
      payloadOf f.f5 = .ok p.payload ∧ fillOf f.f6 = .ok p.fill ∧ cksumOf fr.h fr.l = .ok p.cksum ∧
      checksumOk fr.body p.cksum = true := by
  unfold parseLine at h
  split at h
  · cases h
  next hlen =>
  obtain ⟨fr, hfr, h⟩ := exists_of_bind_eq_ok h
  obtain ⟨f, hf, h⟩ := exists_of_bind_eq_ok h
  obtain ⟨tag, htag, h⟩ := exists_of_bind_eq_ok h
  obtain ⟨total, htotal, h⟩ := exists_of_bind_eq_ok h
  obtain ⟨part, hpart, h⟩ := exists_of_bind_eq_ok h
  obtain ⟨seq, hseq, h⟩ := exists_of_bind_eq_ok h
  obtain ⟨chan, hchan, h⟩ := exists_of_bind_eq_ok h
  obtain ⟨payload, hpayload, h⟩ := exists_of_bind_eq_ok h
  obtain ⟨fill, hfill, h⟩ := exists_of_bind_eq_ok h
  obtain ⟨cksum, hcksum, h⟩ := exists_of_bind_eq_ok h
  split at h
  · next hok =>
    cases h
    exact ⟨Nat.le_of_not_lt hlen, fr, f, hfr, hf, htag, htotal, hpart, hseq, hchan, hpayload, hfill, hcksum, hok⟩
  · cases h

/-- R28, R106, R107, R110: the ranges of the registers that an admitted line leaves. -/
theorem parseLine_ranges {line : Bytes} {p : Parsed} (h : parseLine cfg line = .ok p) :
    (1 ≤ p.total ∧ p.total ≤ cfg.partsMax) ∧ (1 ≤ p.part ∧ p.part ≤ cfg.partsMax) ∧ ∀ c ∈ p.payload, isArmor c = true := by
  obtain ⟨-, fr, f, -, -, -, htotal, hpart, -, -, hpayload, -⟩ := parseLine_eq_ok h
  exact ⟨(countOf_eq_ok htotal).2, (countOf_eq_ok hpart).2, (payloadOf_eq_ok hpayload).2⟩

/-! ### The decoder's answer -/

/-- A command that decodes passed every check of its operands. -/
theorem wfError_of_decode_eq_ok {c : Command} (h : decode cfg c = .ok i) : wfError cfg i = none := by
  unfold decode at h
  split at h
  · cases h
  · split at h
    · cases h
    · next hw => cases h; exact hw

/-- R36: a time sample that can be presented has W_TIME bits. -/
theorem lt_of_timeError {n : Time} (h : timeError cfg n = none) : n < 2 ^ cfg.wTime := by
  unfold timeError at h
  split at h
  · assumption
  · cases h

/-! ### What an instruction writes into RT -/

/-- `TableWrite s i rt`: the instruction `i` writes RT in state `s`, and `rt` is what it writes. -/
inductive TableWrite (s : State) : Instr → List Entry → Prop
  | decode (line : Bytes) (n : Time) :
      TableWrite s (.decode line n) (sweepTable (decodeAttempt s.cfg (expireTable s.rt n) line n).1 n)
  | sweep (n : Time) : TableWrite s (.sweep n) (sweepTable s.rt n)
  | rsmSweep (n : Time) : TableWrite s (.rsmSweep n) (sweepTable s.rt n)
  | rsmExpire (n : Time) : TableWrite s (.rsmExpire n) (expireTable s.rt n)
  | rsm (n : Time) :
      TableWrite s (.rsm n) (rsmStep s.cfg s.rt s.tr.seq s.tr.total s.tr.part s.tr.payload s.tr.fill n).1
  | rsmBypass (n : Time) :
      TableWrite s (.rsmBypass n) (rsmStep s.cfg s.rt s.tr.seq s.tr.total s.tr.part s.tr.payload s.tr.fill n).1
  | rsmCreate (k : Key) (n : Time) (hk : tableGet s.rt k = none) (hl : s.rt.length < s.cfg.nEntries) :
      TableWrite s (.rsmCreate k n) (tablePut s.rt (newEntry k s.tr.total n))
  | rsmStore (k : Key) (e : Entry) (hk : tableGet s.rt k = some e) :
      TableWrite s (.rsmStore k) (tablePut s.rt (storePart e s.tr.part s.tr.payload))
  | rsmFill (k : Key) (e : Entry) (hk : tableGet s.rt k = some e) :
      TableWrite s (.rsmFill k) (tablePut s.rt (storeFill e s.tr.part s.tr.fill))
  | rsmComplete (k : Key) (e : Entry) (hk : tableGet s.rt k = some e) :
      TableWrite s (.rsmComplete k) (rsmComplete s.rt e).1

/-- What an outcome of `i` in `s` may be: a stop, or a state with the same parameters whose table is the old one or the one that
`i` writes. -/
def FrameOrWrite (s : State) (i : Instr) : Host.Outcome State Fault Refusal → Prop
  | .next t => t.cfg = s.cfg ∧ (t.rt = s.rt ∨ TableWrite s i t.rt)
  | .fault _ => True
  | .refused _ => True

theorem FrameOrWrite.frame (hc : t.cfg = s.cfg) (hr : t.rt = s.rt) : FrameOrWrite s i (.next t) := ⟨hc, .inl hr⟩

theorem FrameOrWrite.write (hc : t.cfg = s.cfg) (hw : TableWrite s i t.rt) : FrameOrWrite s i (.next t) := ⟨hc, .inr hw⟩

/-- A step that writes registers or ends without a result. -/
theorem FrameOrWrite.writeOrAbort {α : Type} (r : Except Cause α) (write : Transients → α → Transients) :
    FrameOrWrite s i (.next (s.writeOrAbort r write)) :=
  .frame (s.writeOrAbort_cfg write r) (s.writeOrAbort_rt write r)

/-! ### The rows, family by family -/

theorem armorChar_rt (c : Byte) (v : Nat) (d : Dir) (s : State) : (armorChar c v d s).rt = s.rt := by cases d <;> rfl
theorem armorChar_cfg (c : Byte) (v : Nat) (d : Dir) (s : State) : (armorChar c v d s).cfg = s.cfg := by cases d <;> rfl
theorem textGroup_rt (v : Nat) (c : Byte) (d : Dir) (s : State) : (textGroup v c d s).rt = s.rt := by cases d <;> rfl
theorem textGroup_cfg (v : Nat) (c : Byte) (d : Dir) (s : State) : (textGroup v c d s).cfg = s.cfg := by cases d <;> rfl

theorem decodeLayout_cfg (l : Layout) (s : State) : (decodeLayout s l).cfg = s.cfg := by cases l <;> rfl

theorem receiveType_cfg (ty : Nat) (rest : Bits) (s : State) : (receiveType ty rest s).cfg = s.cfg := by
  rcases receiveType_cases s ty rest with ⟨l, -, h⟩ | ⟨c, -, h⟩ <;> rw [h]
  · exact decodeLayout_cfg l _
  · rfl

theorem positionType_cfg (ty : Nat) (u : PosUse) (s : State) : (positionType ty u s).cfg = s.cfg := by
  cases u with
  | rx rest => exact receiveType_cfg ty rest s
  | tx op => exact s.writeOrAbort_cfg _ _

theorem staticType_cfg (u : StatUse) (s : State) : (staticType u s).cfg = s.cfg := by
  cases u with
  | rx rest => exact receiveType_cfg 5 rest s
  | tx op => exact s.writeOrAbort_cfg _ _

theorem parseInto_rt (s : State) (line : Bytes) : (parseInto s line).rt = s.rt := State.writeOrAbort_rt _ _ _
theorem parseInto_cfg (s : State) (line : Bytes) : (parseInto s line).cfg = s.cfg := State.writeOrAbort_cfg _ _ _

/-! ### The rows whose meaning branches on the state -/

theorem execChkVerify_frame (body : Bytes) (s : State) : FrameOrWrite s i (execChkVerify body s) := by
  unfold execChkVerify
  split <;> exact .frame rfl rfl

theorem execArmPack_frame (s : State) : FrameOrWrite s i (execArmPack s) := by
  unfold execArmPack
  split
  · exact .writeOrAbort _ _
  · exact .frame rfl rfl

theorem execEmt_frame (c : Bytes) (d : SeqDraw) (s : State) : FrameOrWrite s i (execEmt c d s) := by
  unfold execEmt
  split <;> exact .frame rfl rfl

theorem execRsmBypass_frameOrWrite (n : Time) (s : State) : FrameOrWrite s (.rsmBypass n) (execRsmBypass n s) := by
  unfold execRsmBypass
  split
  · exact .frame (decodePayloadInto_cfg s) (decodePayloadInto_rt s)
  · exact .write (rsmInto_cfg s n) (rsmInto_rt s n ▸ .rsmBypass n)

theorem execRsmCreate_frameOrWrite (k : Key) (n : Time) (s : State) :
    FrameOrWrite s (.rsmCreate k n) (execRsmCreate k n s) := by
  unfold execRsmCreate
  split
  · trivial
  · next hk =>
    split
    · exact .frame rfl rfl
    · next hl => exact .write rfl (.rsmCreate k n hk (Nat.lt_of_not_le hl))

theorem execRsmStore_frameOrWrite (k : Key) (s : State) : FrameOrWrite s (.rsmStore k) (execRsmStore k s) := by
  unfold execRsmStore
  split
  · trivial
  · next e hk => exact .write rfl (.rsmStore k e hk)

theorem execRsmFill_frameOrWrite (k : Key) (s : State) : FrameOrWrite s (.rsmFill k) (execRsmFill k s) := by
  unfold execRsmFill
  split
  · trivial
  · next e hk => exact .write rfl (.rsmFill k e hk)

theorem execRsmCount_frame (k : Key) (s : State) : FrameOrWrite s i (execRsmCount k s) := by
  unfold execRsmCount
  split
  · trivial
  · exact .frame rfl rfl

theorem execRsmComplete_frameOrWrite (k : Key) (s : State) : FrameOrWrite s (.rsmComplete k) (execRsmComplete k s) := by
  unfold execRsmComplete
  split
  · trivial
  · next e hk =>
    refine .write (rsmTail_cfg _ _) ?_
    rw [rsmTail_rt]
    exact .rsmComplete k e hk

/-- Everything an instruction can do to the table and the parameters, over every row of the opcode table. -/
theorem exec_frameOrWrite (i : Instr) (s : State) : FrameOrWrite s i (exec i s) := by
  cases i with
  | armchr30 d | armchr31 d | armchr32 d | armchr33 d | armchr34 d | armchr35 d | armchr36 d | armchr37 d | armchr38 d
  | armchr39 d | armchr3A d | armchr3B d | armchr3C d | armchr3D d | armchr3E d | armchr3F d | armchr40 d | armchr41 d
  | armchr42 d | armchr43 d | armchr44 d | armchr45 d | armchr46 d | armchr47 d | armchr48 d | armchr49 d | armchr4A d
  | armchr4B d | armchr4C d | armchr4D d | armchr4E d | armchr4F d | armchr50 d | armchr51 d | armchr52 d | armchr53 d
  | armchr54 d | armchr55 d | armchr56 d | armchr57 d | armchr60 d | armchr61 d | armchr62 d | armchr63 d | armchr64 d
  | armchr65 d | armchr66 d | armchr67 d | armchr68 d | armchr69 d | armchr6A d | armchr6B d | armchr6C d | armchr6D d
  | armchr6E d | armchr6F d | armchr70 d | armchr71 d | armchr72 d | armchr73 d | armchr74 d | armchr75 d | armchr76 d
  | armchr77 d =>
    exact .frame (armorChar_cfg _ _ d s) (armorChar_rt _ _ d s)
  | txtchr00 d | txtchr01 d | txtchr02 d | txtchr03 d | txtchr04 d | txtchr05 d | txtchr06 d | txtchr07 d | txtchr08 d
  | txtchr09 d | txtchr10 d | txtchr11 d | txtchr12 d | txtchr13 d | txtchr14 d | txtchr15 d | txtchr16 d | txtchr17 d
  | txtchr18 d | txtchr19 d | txtchr20 d | txtchr21 d | txtchr22 d | txtchr23 d | txtchr24 d | txtchr25 d | txtchr26 d
  | txtchr27 d | txtchr28 d | txtchr29 d | txtchr30 d | txtchr31 d | txtchr32 d | txtchr33 d | txtchr34 d | txtchr35 d
  | txtchr36 d | txtchr37 d | txtchr38 d | txtchr39 d | txtchr40 d | txtchr41 d | txtchr42 d | txtchr43 d | txtchr44 d
  | txtchr45 d | txtchr46 d | txtchr47 d | txtchr48 d | txtchr49 d | txtchr50 d | txtchr51 d | txtchr52 d | txtchr53 d
  | txtchr54 d | txtchr55 d | txtchr56 d | txtchr57 d | txtchr58 d | txtchr59 d | txtchr60 d | txtchr61 d | txtchr62 d
  | txtchr63 d =>
    exact .frame (textGroup_cfg _ _ d s) (textGroup_rt _ _ d s)
  | msgtype0 u | msgtype1 u | msgtype2 u | msgtype3 u | msgtype4 u | msgtype6 u | msgtype7 u | msgtype8 u | msgtype9 u
  | msgtype10 u | msgtype11 u | msgtype12 u | msgtype13 u | msgtype14 u | msgtype15 u | msgtype16 u | msgtype17 u
  | msgtype18 u | msgtype19 u | msgtype20 u | msgtype21 u | msgtype22 u | msgtype23 u | msgtype24 u | msgtype25 u
  | msgtype26 u | msgtype27 u | msgtype28 u | msgtype29 u | msgtype30 u | msgtype31 u | msgtype32 u | msgtype33 u
  | msgtype34 u | msgtype35 u | msgtype36 u | msgtype37 u | msgtype38 u | msgtype39 u | msgtype40 u | msgtype41 u
  | msgtype42 u | msgtype43 u | msgtype44 u | msgtype45 u | msgtype46 u | msgtype47 u | msgtype48 u | msgtype49 u
  | msgtype50 u | msgtype51 u | msgtype52 u | msgtype53 u | msgtype54 u | msgtype55 u | msgtype56 u | msgtype57 u
  | msgtype58 u | msgtype59 u | msgtype60 u | msgtype61 u | msgtype62 u | msgtype63 u =>
    exact .frame (positionType_cfg _ u s) (positionType_rt s _ u)
  | msgtype5 u => exact .frame (staticType_cfg u s) (staticType_rt s u)
  | aivdm rest | aivdo rest | parse line => exact .frame (parseInto_cfg s _) (parseInto_rt s _)
  -- The host operations and the arbiter.
  | nop | reserved101 | reserved110 | reserved111 => exact .frame rfl rfl
  | decode line n => exact .write rfl (.decode line n)
  | encpos op d | encstat op d => exact .frame (encodeOperation_cfg s _ _ _) (encodeOperation_rt s _ _ _)
  | sweep n => exact .write rfl (.sweep n)
  | rsmSweep n => exact .write rfl (.rsmSweep n)
  | rsmExpire n => exact .write rfl (.rsmExpire n)
  -- The response rows.
  | kindNone | kindPos | kindStat | kindLines | causeOk | causeBuffered | causeDropGrammar | causeDropChecksum
  | causeDropShort | causeDropType | causeDropIncomplete | causeDropLimit | causeDropCapacity | causeEncSignedRange
  | causeEncUnsignedRange | causeEncType | causeEncChannel | causeEncArmorRange | causeIllegalOp => exact .frame rfl rfl
  | causeReserved15 => trivial
  -- Micro-operations that write registers or return a value.
  | chkXor body | chkHex2 h l | parseInt str | rsmKey | rsmLookup k | armDec6 c | armUnpack | armStrip | armDecode | armPad6
  | fldGetu o w | fldGets o w | fldGett o m | fldPutt text m | posDecode | statDecode | emtChunk p | emtFill m | emtSeq m d
  | emtLine m j seqId ch chunk f | emtCksum body => exact .frame rfl rfl
  -- Micro-operations that write registers or end without a result.
  | parseFrame | parseSplit body | parseTotal f | parsePart f | parseSeq f | parseChan f | parsePayload f | parseFill f
  | parseCksum h l | armEnc6 v | fldPutu v w | fldPuts v w | posEncode op | statEncode op | emtChan c =>
    exact .writeOrAbort _ _
  | armEncode | emtPad => exact .frame (State.writeOrAbort_cfg _ _ _) (State.writeOrAbort_rt _ _ _)
  | chkVerify body => exact execChkVerify_frame body s
  | armPack => exact execArmPack_frame s
  | emt c d => exact execEmt_frame c d s
  | fldType => exact .frame (fldTypeInto_cfg s) (fldTypeInto_rt s)
  | decodePayload => exact .frame (decodePayloadInto_cfg s) (decodePayloadInto_rt s)
  -- The reassembler.
  | rsmBypass n => exact execRsmBypass_frameOrWrite n s
  | rsmCreate k n => exact execRsmCreate_frameOrWrite k n s
  | rsmStore k => exact execRsmStore_frameOrWrite k s
  | rsmFill k => exact execRsmFill_frameOrWrite k s
  | rsmCount k => exact execRsmCount_frame k s
  | rsmComplete k => exact execRsmComplete_frameOrWrite k s
  | rsmCheck e | rsmJoin e => exact .frame (rsmTail_cfg s _) (rsmTail_rt s _)
  | rsm n => exact .write (rsmInto_cfg s n) (rsmInto_rt s n ▸ .rsm n)

theorem exec_cfg (h : exec i s = .next t) : t.cfg = s.cfg := by
  have hf := exec_frameOrWrite i s
  rw [h] at hf
  exact hf.1

theorem exec_rt_cases (h : exec i s = .next t) : t.rt = s.rt ∨ TableWrite s i t.rt := by
  have hf := exec_frameOrWrite i s
  rw [h] at hf
  exact hf.2

/-- Everything a step can do to the table and the parameters: the parameters stay, and the table stays or is what some
well-formed instruction writes, whatever is left in the port. -/
theorem step_cfg_and_rt_cases (h : step s = .next t) :
    t.cfg = s.cfg ∧ (t.rt = s.rt ∨ ∃ i rest, wfError s.cfg i = none ∧ TableWrite (s.withPort rest) i t.rt) := by
  rcases step_cases s with ⟨-, hs⟩ | ⟨c, rest, e, -, -, hs⟩ | ⟨c, rest, i, -, hd, hs⟩ <;> rw [hs] at h
  · cases h
    exact ⟨rfl, .inl rfl⟩
  · cases h
  · exact ⟨exec_cfg (s := s.withPort rest) h,
      (exec_rt_cases h).imp id (fun hw => ⟨i, rest, wfError_of_decode_eq_ok hd, hw⟩)⟩

/-! ### The table that the reassembler and the attempt of a DECODE leave -/

/-- An entry of the table after the completion test was there before; if it has the key of the entry tested, that one was not
complete. -/
theorem mem_rsmComplete {e x : Entry} (hx : x ∈ (rsmComplete rt e).1) :
    x ∈ rt ∧ (x.key = e.key → partCount e ≠ e.total) := by
  rcases rsmComplete_cases rt e with ⟨hne, h⟩ | ⟨-, -, h⟩ | ⟨-, -, h⟩ <;> rw [h] at hx
  · exact ⟨hx, fun _ => hne⟩
  all_goals
    obtain ⟨hmem, hk⟩ := List.mem_filter.1 hx
    exact ⟨hmem, fun he => absurd he (of_decide_eq_true hk)⟩

/-- An entry of the table after the reassembler step was there before, or is the entry of the sentence's key, old or new, with
the part stored and not yet complete (R136 to R139). -/
theorem mem_rsmStep {seq payload : Bytes} {total part : Nat} {fill : Fin 8} {n : Time} {x : Entry}
    (hx : x ∈ (rsmStep cfg rt seq total part payload fill n).1) :
    x ∈ rt ∨ ∃ e, (e ∈ rt ∨ e = newEntry (rsmKey seq) total n) ∧ x = storeFill (storePart e part payload) part fill ∧
      partCount x ≠ x.total := by
  rcases rsmStep_cases cfg rt seq total part payload fill n with ⟨-, -, h⟩ | ⟨e, he, h⟩ <;> rw [h] at hx
  · exact .inl hx
  · obtain ⟨hput, hopen⟩ := mem_rsmComplete hx
    have hsource : e ∈ rt ∨ e = newEntry (rsmKey seq) total n :=
      he.imp (fun hg => (tableGet_key hg).2) (fun ⟨_, _, hnew⟩ => hnew)
    rcases tablePut_mem hput with rfl | hold
    · exact .inr ⟨e, hsource, rfl, hopen rfl⟩
    · exact .inl hold

/-- The attempt of a DECODE leaves the table alone or is the reassembler step of an admitted line of several parts. -/
theorem decodeAttempt_rt_cases (cfg : Config.Params) (rt : List Entry) (line : Bytes) (n : Time) :
    (decodeAttempt cfg rt line n).1 = rt ∨ ∃ p, parseLine cfg line = .ok p ∧ p.total ≠ 1 ∧
      (decodeAttempt cfg rt line n).1 = (rsmStep cfg rt p.seq p.total p.part p.payload p.fill n).1 := by
  rcases decodeAttempt_cases cfg rt line n with ⟨c, -, h⟩ | ⟨p, -, -, h⟩ | ⟨p, hp, hne, h, -⟩
  · exact .inl (congrArg Prod.fst h)
  · exact .inl (congrArg Prod.fst h)
  · exact .inr ⟨p, hp, hne, h⟩

/-! ### The table within its capacity, every key a key once (R21, R23) -/

theorem tableInv_filter (keep : Entry → Bool) (h : tableInv cfg rt) : tableInv cfg (rt.filter keep) := by
  obtain ⟨hwf, hkeys, hlen⟩ := h
  exact ⟨tableWf_filter keep hwf, fun e he => hkeys e (List.mem_filter.1 he).1,
    Nat.le_trans (List.length_filter_le keep rt) hlen⟩

/-- Writing an entry back under its own key. -/
theorem tableInv_tablePut_present {k : Key} {e e' : Entry} (h : tableInv cfg rt) (hg : tableGet rt k = some e)
    (hk : e'.key = e.key) (hp : partsRising e'.parts = true) : tableInv cfg (tablePut rt e') := by
  obtain ⟨hwf, hkeys, hlen⟩ := h
  obtain ⟨hek, hmem⟩ := tableGet_key hg
  refine ⟨tableWf_tablePut hwf hp, fun x hx => ?_, ?_⟩
  · rcases tablePut_mem hx with rfl | hx
    · exact hk ▸ hkeys e hmem
    · exact hkeys x hx
  · rw [tablePut_length_present hwf (x := e) (by rw [hk, hek, hg])]
    exact hlen

/-- Writing an entry under a new key, which needs room (R135). -/
theorem tableInv_tablePut_absent {e : Entry} (h : tableInv cfg rt) (hg : tableGet rt e.key = none)
    (hroom : rt.length < cfg.nEntries) (hk : e.key.wf = true) (hp : partsRising e.parts = true) :
    tableInv cfg (tablePut rt e) := by
  obtain ⟨hwf, hkeys, -⟩ := h
  refine ⟨tableWf_tablePut hwf hp, fun x hx => ?_, ?_⟩
  · rcases tablePut_mem hx with rfl | hx
    · exact hk
    · exact hkeys x hx
  · rw [tablePut_length_absent hg]
    exact hroom

theorem tableInv_rsmComplete (e : Entry) (h : tableInv cfg rt) : tableInv cfg (rsmComplete rt e).1 := by
  rcases rsmComplete_cases rt e with ⟨-, he⟩ | ⟨-, -, he⟩ | ⟨-, -, he⟩ <;> rw [he]
  · exact h
  · exact tableInv_filter _ h
  · exact tableInv_filter _ h

theorem tableInv_rsmStep (seq : Bytes) (total part : Nat) (payload : Bytes) (fill : Fin 8) (n : Time)
    (h : tableInv cfg rt) : tableInv cfg (rsmStep cfg rt seq total part payload fill n).1 := by
  rcases rsmStep_cases cfg rt seq total part payload fill n with ⟨-, -, hs⟩ | ⟨e, he, hs⟩ <;> rw [hs]
  · exact h
  · refine tableInv_rsmComplete _ ?_
    rcases he with hg | ⟨hg, hroom, rfl⟩
    · exact tableInv_tablePut_present h hg (by simp) (by simpa using putPart_rising part payload (tableWf_parts h.1 hg))
    · exact tableInv_tablePut_absent h (by simpa using hg) hroom (by simpa using rsmKey_wf seq)
        (by simpa using putPart_rising part payload rfl)

theorem tableInv_decodeAttempt (line : Bytes) (n : Time) (h : tableInv cfg rt) :
    tableInv cfg (decodeAttempt cfg rt line n).1 := by
  rcases decodeAttempt_rt_cases cfg rt line n with e | ⟨p, -, -, e⟩ <;> rw [e]
  · exact h
  · exact tableInv_rsmStep _ _ _ _ _ _ h

/-- Every write of RT by a well-formed instruction keeps the table's invariant. -/
theorem TableWrite.keeps_tableInv (hw : TableWrite s i rt) (hi : wfError s.cfg i = none) (h : tableInv s.cfg s.rt) :
    tableInv s.cfg rt := by
  cases hw with
  | decode line n => exact tableInv_filter _ (tableInv_decodeAttempt line n (tableInv_filter _ h))
  | sweep n | rsmSweep n | rsmExpire n => exact tableInv_filter _ h
  | rsm n | rsmBypass n => exact tableInv_rsmStep _ _ _ _ _ _ h
  | rsmCreate k n hk hl =>
    have hkey : keyError k = none := (Option.or_eq_none_iff.1 hi).1
    exact tableInv_tablePut_absent h hk hl (Key.wf_of_keyError hkey) rfl
  | rsmStore k e hk => exact tableInv_tablePut_present h hk rfl (putPart_rising _ _ (tableWf_parts h.1 hk))
  | rsmFill k e hk => exact tableInv_tablePut_present h hk (by simp) (by simpa using tableWf_parts h.1 hk)
  | rsmComplete k e hk => exact tableInv_rsmComplete e h

/-! ### Creation times that fit (R22, R26) -/

theorem timesFit_filter (keep : Entry → Bool) (h : timesFit cfg rt) : timesFit cfg (rt.filter keep) :=
  fun e he => h e (List.mem_filter.1 he).1

theorem timesFit_tablePut {e : Entry} (h : timesFit cfg rt) (he : e.created < 2 ^ cfg.wTime) :
    timesFit cfg (tablePut rt e) := by
  intro x hx
  rcases tablePut_mem hx with rfl | hx
  · exact he
  · exact h x hx

theorem timesFit_rsmStep (seq : Bytes) (total part : Nat) (payload : Bytes) (fill : Fin 8) {n : Time}
    (hn : n < 2 ^ cfg.wTime) (h : timesFit cfg rt) : timesFit cfg (rsmStep cfg rt seq total part payload fill n).1 := by
  intro x hx
  rcases mem_rsmStep hx with hold | ⟨e, he, rfl, -⟩
  · exact h x hold
  · rw [storeFill_created, storePart_created]
    rcases he with he | rfl
    · exact h e he
    · exact hn

theorem timesFit_decodeAttempt (line : Bytes) {n : Time} (hn : n < 2 ^ cfg.wTime) (h : timesFit cfg rt) :
    timesFit cfg (decodeAttempt cfg rt line n).1 := by
  rcases decodeAttempt_rt_cases cfg rt line n with e | ⟨p, -, -, e⟩ <;> rw [e]
  · exact h
  · exact timesFit_rsmStep _ _ _ _ _ hn h

/-- Every write of RT by a well-formed instruction keeps the creation times within W_TIME bits. -/
theorem TableWrite.keeps_timesFit (hw : TableWrite s i rt) (hi : wfError s.cfg i = none) (h : timesFit s.cfg s.rt) :
    timesFit s.cfg rt := by
  cases hw with
  | decode line n => exact timesFit_filter _ (timesFit_decodeAttempt line (lt_of_timeError hi) (timesFit_filter _ h))
  | sweep n | rsmSweep n | rsmExpire n => exact timesFit_filter _ h
  | rsm n | rsmBypass n => exact timesFit_rsmStep _ _ _ _ _ (lt_of_timeError hi) h
  | rsmCreate k n hk hl =>
    have htime : timeError s.cfg n = none := (Option.or_eq_none_iff.1 hi).2
    exact timesFit_tablePut h (lt_of_timeError htime)
  | rsmStore k e hk => exact timesFit_tablePut h (h e (tableGet_key hk).2)
  | rsmFill k e hk => exact timesFit_tablePut h (by simpa using h e (tableGet_key hk).2)
  | rsmComplete k e hk => exact fun x hx => h x (mem_rsmComplete hx).1

/-! ### What holds of an entry between two operations (R27) -/

/-- A part just stored stands in the map (R24). -/
theorem mem_putPart_self (ps : List (Nat × Bytes)) (i : Nat) (frag : Bytes) : (i, frag) ∈ putPart ps i frag := by
  induction ps with
  | nil => simp [putPart]
  | cons q rest ih =>
    simp only [putPart]
    split
    · simp
    · split
      · simp
      · exact List.mem_cons_of_mem _ ih

/-- Storing a part of an admitted sentence into an entry, old or new, that stays incomplete leaves a good entry. -/
theorem entryBetween_store {e x : Entry} {part : Nat} {payload : Bytes} {fill : Fin 8}
    (hcount : partCount e < e.total) (htotal : 2 ≤ e.total ∧ e.total ≤ cfg.partsMax)
    (hindex : ∀ p ∈ e.parts, 1 ≤ p.1 ∧ p.1 ≤ cfg.partsMax) (halpha : ∀ p ∈ e.parts, ∀ c ∈ p.2, isArmor c = true)
    (hpart : 1 ≤ part ∧ part ≤ cfg.partsMax) (hpayload : ∀ c ∈ payload, isArmor c = true)
    (hx : x = storeFill (storePart e part payload) part fill) (hopen : partCount x ≠ x.total) : entryBetween cfg x := by
  have hxparts : x.parts = putPart e.parts part payload := by simp [hx]
  have hxtotal : x.total = e.total := by simp [hx]
  refine ⟨?_, hxtotal ▸ htotal, fun p hp => ?_, fun p hp => ?_⟩
  · have hsome := List.length_pos_of_mem (mem_putPart_self e.parts part payload)
    have hgrow := (putPart_length e.parts part payload).2
    simp only [partCount, hxparts, hxtotal] at hcount hopen ⊢
    omega
  all_goals
    rw [hxparts] at hp
    rcases putPart_mem hp with rfl | hp
  · exact hpart
  · exact hindex p hp
  · exact hpayload
  · exact halpha p hp

theorem tableBetween_filter (keep : Entry → Bool) (h : tableBetween cfg rt) : tableBetween cfg (rt.filter keep) :=
  ⟨tableInv_filter keep h.1, fun e he => h.2 e (List.mem_filter.1 he).1⟩

theorem tableBetween_rsmStep {seq payload : Bytes} {total part : Nat} (fill : Fin 8) (n : Time)
    (htotal : 2 ≤ total ∧ total ≤ cfg.partsMax) (hpart : 1 ≤ part ∧ part ≤ cfg.partsMax)
    (hpayload : ∀ c ∈ payload, isArmor c = true) (h : tableBetween cfg rt) :
    tableBetween cfg (rsmStep cfg rt seq total part payload fill n).1 := by
  refine ⟨tableInv_rsmStep _ _ _ _ _ _ h.1, fun x hx => ?_⟩
  rcases mem_rsmStep hx with hold | ⟨e, he | rfl, hstore, hopen⟩
  · exact h.2 x hold
  · obtain ⟨⟨-, hcount⟩, hrange, hindex, halpha⟩ := h.2 e he
    exact entryBetween_store hcount hrange hindex halpha hpart hpayload hstore hopen
  · have hcount : partCount (newEntry (rsmKey seq) total n) < total := by
      show 0 < total
      omega
    exact entryBetween_store hcount htotal (by simp) (by simp) hpart hpayload hstore hopen

theorem tableBetween_decodeAttempt (line : Bytes) (n : Time) (h : tableBetween cfg rt) :
    tableBetween cfg (decodeAttempt cfg rt line n).1 := by
  rcases decodeAttempt_rt_cases cfg rt line n with e | ⟨p, hp, hne, e⟩ <;> rw [e]
  · exact h
  · obtain ⟨⟨hpos, hmax⟩, hpart, hpayload⟩ := parseLine_ranges hp
    exact tableBetween_rsmStep p.fill n ⟨by omega, hmax⟩ hpart hpayload h

/-- The writes of RT by a host operation or the arbiter keep what holds between operations. -/
theorem TableWrite.keeps_tableBetween (hw : TableWrite s i rt) (hi : isHostOp i = true ∨ isArbiter i = true)
    (h : tableBetween s.cfg s.rt) : tableBetween s.cfg rt := by
  cases hw with
  | decode line n => exact tableBetween_filter _ (tableBetween_decodeAttempt line n (tableBetween_filter _ h))
  | sweep n | rsmSweep n => exact tableBetween_filter _ h
  | rsmExpire | rsm | rsmBypass | rsmCreate | rsmStore | rsmFill | rsmComplete => simp [isHostOp, isArbiter] at hi

/-! ### The response of an encode -/

/-- The response of an encode, R303, R304: the lines, or the first fault met. -/
def encodeResponse (packed : Except Cause Bits) (chan : Bytes) (d : SeqDraw) : Response :=
  match packed with
  | .error c => Response.ofCause c
  | .ok b =>
    match emtLines b chan d with
    | .error c => Response.ofCause c
    | .ok lines => ⟨.lines, .ok, .lines lines⟩

/-- An encode answers from its operand and its draw alone. -/
theorem encodeOperation_resp (s : State) (packed : Except Cause Bits) (chan : Bytes) (d : SeqDraw) :
    (encodeOperation s packed chan d).resp = encodeResponse packed chan d := by
  cases packed with
  | error c => rfl
  | ok b => cases h : emtLines b chan d <;> simp [encodeOperation, encodeResponse, h]

/-! ### The obligations of the state -/

/-- Settles O7: a step leaves the table, or some well-formed instruction writes it by `TableWrite`. -/
theorem everyStepKeepsTableInvariant : Obligations.EveryStepKeepsTableInvariant := by
  unfold Obligations.EveryStepKeepsTableInvariant
  intro s t hstep
  obtain ⟨hcfg, hrt⟩ := step_cfg_and_rt_cases hstep
  rw [hcfg]
  rcases hrt with hrt | ⟨i, rest, hwf, hw⟩
  · rw [hrt]
    exact ⟨id, id⟩
  · exact ⟨hw.keeps_tableInv hwf, hw.keeps_timesFit hwf⟩

/-- Settles O8, through the entries that the reassembler step can leave. -/
theorem operationsKeepEntriesIncomplete : Obligations.OperationsKeepEntriesIncomplete := by
  unfold Obligations.OperationsKeepEntriesIncomplete
  intro i s t hi h hexec
  rw [exec_cfg hexec]
  rcases exec_rt_cases hexec with hrt | hw
  · rw [hrt]
    exact h
  · exact hw.keeps_tableBetween hi h

/-- Settles O9: each host operation computes its table and its response from its operands, RT and the parameters. -/
theorem operationsIgnoreTransients : Obligations.OperationsIgnoreTransients := by
  unfold Obligations.OperationsIgnoreTransients
  intro i s tr r hi
  cases i with
  | nop | decode line n | sweep n | reserved101 | reserved110 | reserved111 => exact ⟨_, _, rfl, rfl, rfl, rfl⟩
  | encpos op d | encstat op d =>
    refine ⟨_, _, rfl, rfl, ?_, ?_⟩
    · simp only [encodeOperation_rt, State.withResp_rt, State.withTr_rt]
    · simp only [encodeOperation_resp]
  | _ => exact absurd hi Bool.false_ne_true

/-- Settles O60: no row of the table writes the parameters. -/
theorem everyStepKeepsParameters : Obligations.EveryStepKeepsParameters :=
  fun _ _ hstep => (step_cfg_and_rt_cases hstep).1

/-- Settles O5: the table at reset is the empty list. -/
theorem resetLeavesTableEmpty : Obligations.ResetLeavesTableEmpty := ⟨rfl, rfl, fun _ => rfl⟩

/-- Settles O6: no entry stands in the table at reset. -/
theorem resetTableIsGood : Obligations.ResetTableIsGood :=
  ⟨⟨tableWf_reset, List.forall_mem_nil _, Nat.zero_le _⟩, List.forall_mem_nil _⟩

end Sys2Proof.Machine
end

section
/-! SUPPORT. The two readings of a bit string as a number (spec 20_memory.md R54, R55). -/

namespace Sys2Proof.Machine

/-! ### Unsigned readings -/

/-- R54, as the rule writes it: bit `j` of `w` bits weighs `2 ^ (w - 1 - j)`. -/
theorem uint_eq_sum_weights (b : Bits) :
    uint b = ((List.range b.length).map (fun j => (b.getD j false).toNat * 2 ^ (b.length - 1 - j))).sum := by
  induction b with
  | nil => rfl
  | cons x xs ih =>
    simp [uint, ih, List.range_succ_eq_map, Function.comp_def, Nat.sub_sub, Nat.add_comm]

/-- A bit string and its inversion share out the ones: together they read as all ones. -/
theorem uint_add_uint_not (b : Bits) : uint b + uint (b.map (fun x => !x)) + 1 = 2 ^ b.length := by
  induction b with
  | nil => rfl
  | cons x xs ih =>
    simp only [uint, List.map_cons, List.length_map, List.length_cons, Nat.pow_succ]
    cases x <;> simp <;> omega

@[simp] theorem uint_replicate_false (n : Nat) : uint (List.replicate n false) = 0 := by
  induction n with
  | zero => rfl
  | succ n ih => simp [List.replicate_succ, uint, ih]

/-! ### Signed readings -/

theorem sint_of_head_false {b : Bits} (h : b.head? = some false) : sint b = Int.ofNat (uint b) := by
  simp [sint, h]

theorem sint_of_head_true {b : Bits} (h : b.head? = some true) :
    sint b = -(Int.ofNat (uint (b.map (fun x => !x))) + 1) := if_pos h

/-- R55: with the first bit set, inverting, adding 1 and negating takes `2 ^ w` away from the unsigned reading. -/
theorem sint_of_head_true_eq_uint_sub {b : Bits} (h : b.head? = some true) :
    sint b = Int.ofNat (uint b) - 2 ^ b.length := by
  have hnot : (uint b : Int) + uint (b.map (fun x => !x)) + 1 = 2 ^ b.length := mod_cast uint_add_uint_not b
  rw [sint_of_head_true h]
  simp only [Int.ofNat_eq_natCast]
  omega

/-- The first bit of a signed reading weighs `-(2 ^ (w - 1))`, the others as in the unsigned one. -/
theorem sint_cons (x : Bool) (bs : Bits) : sint (x :: bs) = uint bs - x.toNat * 2 ^ bs.length := by
  cases x with
  | false => simp [sint_of_head_false (b := false :: bs) rfl, uint]
  | true =>
    rw [sint_of_head_true_eq_uint_sub rfl]
    simp only [uint, List.length_cons, Bool.toNat_true, Int.ofNat_eq_natCast]
    push_cast
    ring

/-- R55: a signed reading of `w` bits lies in `-(2 ^ (w - 1)) .. 2 ^ (w - 1) - 1`. -/
theorem sint_range {b : Bits} (h : b ≠ []) : -(2 ^ (b.length - 1)) ≤ sint b ∧ sint b ≤ 2 ^ (b.length - 1) - 1 := by
  cases b with
  | nil => exact absurd rfl h
  | cons x xs =>
    have hlt : (uint xs : Int) < 2 ^ xs.length := mod_cast uint_lt xs
    rw [sint_cons, List.length_cons, Nat.add_sub_cancel]
    cases x <;> simp <;> omega

/-! ### The obligation of the readings -/

/-- Settles O40: the sum by induction along the bits, the signed reading through the weight of its first bit. -/
theorem bitStringsAsNumbers : Obligations.BitStringsAsNumbers := by
  unfold Obligations.BitStringsAsNumbers
  refine ⟨uint_eq_sum_weights, fun b hne => ⟨sint_of_head_false, fun h => ?_, sint_range hne⟩, fun w => ?_⟩
  · exact ⟨sint_of_head_true h, sint_of_head_true_eq_uint_sub h⟩
  · simp [sint_cons]

end Sys2Proof.Machine
end

section
/-! SUPPORT. Decoder and encoder, format by format (spec 30_encoding.md R72, R79, R80, R81, R85, R86): what each format decodes to
from a row of its table, and that every row of its table is encoded with its own code. -/

namespace Sys2Proof

open Machine

variable {p : Config.Params} {c : Command} {i : Instr} {args : List Arg}

/-! ### The decoder in two steps -/

/-- What decodes is what the command spells, once its operands have passed. -/
theorem decode_eq_ok_iff : decode p c = .ok i ↔ decodeRaw c = .ok i ∧ wfError p i = none := by
  constructor
  · intro h
    refine ⟨?_, wfError_of_decode_eq_ok h⟩
    unfold decode at h
    split at h
    · cases h
    · next j hj =>
      split at h
      · cases h
      · cases h; exact hj
  · rintro ⟨hr, hw⟩
    simp only [decode, hr, hw]

theorem wellFormed_iff : WellFormed p i = true ↔ wfError p i = none := Option.isNone_iff_eq_none

/-! ### From a row of the table to its instruction -/

theorem decodeRaw_armor_of_row {b : BitVec 8} {f : Dir → Instr} (h : armorRow b = some f) (d : Dir) :
    decodeRaw ⟨.armor b, [.dir d]⟩ = .ok (f d) := by
  simp only [decodeRaw, decodeArmor, h]

theorem decodeRaw_text_of_row {v : BitVec 6} {f : Dir → Instr} (h : textRows[v.toNat]? = some f) (d : Dir) :
    decodeRaw ⟨.text v, [.dir d]⟩ = .ok (f d) := by
  simp only [decodeRaw, decodeText, h]

theorem decodeRaw_msg_of_posRow {ty : BitVec 6} {f : PosUse → Instr} (h : posTypeRows[ty.toNat]? = some (some f)) (u : PosUse) :
    decodeRaw ⟨.msg ty, u.args⟩ = .ok (f u) := by
  cases u <;> simp only [decodeRaw, decodeMsg, h, PosUse.args]

theorem decodeRaw_msg_static (u : StatUse) : decodeRaw ⟨.msg 5#6, u.args⟩ = .ok (.msgtype5 u) := by
  cases u <;> rfl

theorem decodeRaw_kind_of_row {k : BitVec 2} (h : kindRows[k.toNat]? = some i) : decodeRaw ⟨.kind k, []⟩ = .ok i := by
  simp only [decodeRaw, decodeKind, h]

theorem decodeRaw_cause_of_row {k : BitVec 4} (h : causeRows[k.toNat]? = some i) : decodeRaw ⟨.cause k, []⟩ = .ok i := by
  simp only [decodeRaw, decodeCause, h]

/-! ### From an instruction through its command and back -/

/-- A key is presented by its id; every other operand is presented as it is. -/
theorem decodeRaw_encode (h : wfError p i = none) : decodeRaw (encode i) = .ok i := by
  cases i with
  | armchr30 d | armchr31 d | armchr32 d | armchr33 d | armchr34 d | armchr35 d | armchr36 d | armchr37 d | armchr38 d
  | armchr39 d | armchr3A d | armchr3B d | armchr3C d | armchr3D d | armchr3E d | armchr3F d | armchr40 d | armchr41 d
  | armchr42 d | armchr43 d | armchr44 d | armchr45 d | armchr46 d | armchr47 d | armchr48 d | armchr49 d | armchr4A d
  | armchr4B d | armchr4C d | armchr4D d | armchr4E d | armchr4F d | armchr50 d | armchr51 d | armchr52 d | armchr53 d
  | armchr54 d | armchr55 d | armchr56 d | armchr57 d | armchr60 d | armchr61 d | armchr62 d | armchr63 d | armchr64 d
  | armchr65 d | armchr66 d | armchr67 d | armchr68 d | armchr69 d | armchr6A d | armchr6B d | armchr6C d | armchr6D d
  | armchr6E d | armchr6F d | armchr70 d | armchr71 d | armchr72 d | armchr73 d | armchr74 d | armchr75 d | armchr76 d
  | armchr77 d =>
    exact decodeRaw_armor_of_row (by rfl) d
  | txtchr00 d | txtchr01 d | txtchr02 d | txtchr03 d | txtchr04 d | txtchr05 d | txtchr06 d | txtchr07 d | txtchr08 d
  | txtchr09 d | txtchr10 d | txtchr11 d | txtchr12 d | txtchr13 d | txtchr14 d | txtchr15 d | txtchr16 d | txtchr17 d
  | txtchr18 d | txtchr19 d | txtchr20 d | txtchr21 d | txtchr22 d | txtchr23 d | txtchr24 d | txtchr25 d | txtchr26 d
  | txtchr27 d | txtchr28 d | txtchr29 d | txtchr30 d | txtchr31 d | txtchr32 d | txtchr33 d | txtchr34 d | txtchr35 d
  | txtchr36 d | txtchr37 d | txtchr38 d | txtchr39 d | txtchr40 d | txtchr41 d | txtchr42 d | txtchr43 d | txtchr44 d
  | txtchr45 d | txtchr46 d | txtchr47 d | txtchr48 d | txtchr49 d | txtchr50 d | txtchr51 d | txtchr52 d | txtchr53 d
  | txtchr54 d | txtchr55 d | txtchr56 d | txtchr57 d | txtchr58 d | txtchr59 d | txtchr60 d | txtchr61 d | txtchr62 d
  | txtchr63 d =>
    exact decodeRaw_text_of_row (by rfl) d
  | msgtype0 u | msgtype1 u | msgtype2 u | msgtype3 u | msgtype4 u | msgtype6 u | msgtype7 u | msgtype8 u | msgtype9 u
  | msgtype10 u | msgtype11 u | msgtype12 u | msgtype13 u | msgtype14 u | msgtype15 u | msgtype16 u | msgtype17 u
  | msgtype18 u | msgtype19 u | msgtype20 u | msgtype21 u | msgtype22 u | msgtype23 u | msgtype24 u | msgtype25 u
  | msgtype26 u | msgtype27 u | msgtype28 u | msgtype29 u | msgtype30 u | msgtype31 u | msgtype32 u | msgtype33 u
  | msgtype34 u | msgtype35 u | msgtype36 u | msgtype37 u | msgtype38 u | msgtype39 u | msgtype40 u | msgtype41 u
  | msgtype42 u | msgtype43 u | msgtype44 u | msgtype45 u | msgtype46 u | msgtype47 u | msgtype48 u | msgtype49 u
  | msgtype50 u | msgtype51 u | msgtype52 u | msgtype53 u | msgtype54 u | msgtype55 u | msgtype56 u | msgtype57 u
  | msgtype58 u | msgtype59 u | msgtype60 u | msgtype61 u | msgtype62 u | msgtype63 u =>
    exact decodeRaw_msg_of_posRow (by rfl) u
  | msgtype5 u => exact decodeRaw_msg_static u
  | kindNone | kindPos | kindStat | kindLines => exact decodeRaw_kind_of_row rfl
  | causeOk | causeBuffered | causeDropGrammar | causeDropChecksum | causeDropShort | causeDropType | causeDropIncomplete
  | causeDropLimit | causeDropCapacity | causeEncSignedRange | causeEncUnsignedRange | causeEncType | causeEncChannel
  | causeEncArmorRange | causeIllegalOp | causeReserved15 => exact decodeRaw_cause_of_row rfl
  | encpos op d | encstat op d | emtSeq n d | emt c d => exact withDraw_digit d _
  | rsmLookup k | rsmStore k | rsmFill k | rsmCount k | rsmComplete k =>
    exact congrArg (Except.ok ∘ _) (Key.ofId_of_wf (Key.wf_of_keyError h))
  | rsmCreate k t =>
    have hk : keyError k = none := (Option.or_eq_none_iff.1 h).1
    exact congrArg (fun k => Except.ok (Instr.rsmCreate k t)) (Key.ofId_of_wf (Key.wf_of_keyError hk))
  | nop | decode | sweep | reserved101 | reserved110 | reserved111 | aivdm | aivdo => rfl
  | chkXor | chkHex2 | chkVerify | parseFrame | parseSplit | parseInt | parseTotal | parsePart | parseSeq
  | parseChan | parsePayload | parseFill | parseCksum | parse | rsmBypass | rsmKey | rsmCheck | rsmJoin | rsm
  | rsmExpire | rsmSweep | armDec6 | armUnpack | armStrip | armDecode | armPad6 | armEnc6 | armPack | armEncode
  | fldGetu | fldGets | fldGett | fldPutu | fldPuts | fldPutt | fldType | posDecode | posEncode | statDecode
  | statEncode | emtPad | emtChunk | emtFill | emtChan | emtLine | emtCksum | decodePayload => rfl

/-! ### From a command through its instruction and back -/

/-- The rows of the payload alphabet below the gap, in byte order from 0x30, are encoded with their bytes. -/
theorem encode_armorRowsLow : armorRowsLow.map (fun f d => encode (f d)) =
    (List.range 40).map (fun j d => ⟨.armor (BitVec.ofNat 8 (j + 0x30)), [.dir d]⟩) := rfl

/-- The rows of the payload alphabet above the gap, in byte order from 0x60, are encoded with their bytes. -/
theorem encode_armorRowsHigh : armorRowsHigh.map (fun f d => encode (f d)) =
    (List.range 24).map (fun j d => ⟨.armor (BitVec.ofNat 8 (j + 0x60)), [.dir d]⟩) := rfl

/-- The rows of the text alphabet, in order of the group value, are encoded with it. -/
theorem encode_textRows : textRows.map (fun f d => encode (f d)) =
    (List.range 64).map (fun j d => ⟨.text (BitVec.ofNat 6 j), [.dir d]⟩) := rfl

/-- The rows of the message type, in order of the type, are encoded with it; the place of type 5 is empty. -/
theorem encode_posTypeRows : posTypeRows.map (fun r => r.map (fun f u => encode (f u))) =
    (List.range 64).map (fun j => if j = 5 then none else some (fun u => ⟨.msg (BitVec.ofNat 6 j), u.args⟩)) := rfl

/-- The response kinds, in order of their codes, are encoded with them. -/
theorem encode_kindRows : kindRows.map encode = (List.range 4).map (fun j => ⟨.kind (BitVec.ofNat 2 j), []⟩) := rfl

/-- The response causes, in order of their codes, are encoded with them. -/
theorem encode_causeRows : causeRows.map encode = (List.range 16).map (fun j => ⟨.cause (BitVec.ofNat 4 j), []⟩) := rfl

/-- A table whose image is the list of the codes `0` to `n - 1` has at place `j` the row of code `j`. -/
theorem apply_eq_of_map_eq_map_range {α β : Type} {l : List α} {g : α → β} {n : Nat} {code : Nat → β}
    (h : l.map g = (List.range n).map code) {j : Nat} {a : α} (ha : l[j]? = some a) : g a = code j := by
  have hj : (l.map g)[j]? = some (g a) := by simp [ha]
  rw [h, List.getElem?_map] at hj
  obtain ⟨k, hk, hc⟩ := Option.map_eq_some_iff.1 hj
  obtain ⟨_, rfl⟩ := List.getElem?_eq_some_iff.1 hk
  simpa using hc.symm

theorem encode_of_armorRow {b : BitVec 8} {f : Dir → Instr} (h : armorRow b = some f) (d : Dir) :
    encode (f d) = ⟨.armor b, [.dir d]⟩ := by
  unfold armorRow at h
  split at h
  · next hb =>
    have he := congrFun (apply_eq_of_map_eq_map_range encode_armorRowsHigh h) d
    rwa [Nat.sub_add_cancel hb, BitVec.ofNat_toNat, BitVec.setWidth_eq] at he
  · split at h
    · next hb =>
      have he := congrFun (apply_eq_of_map_eq_map_range encode_armorRowsLow h) d
      rwa [Nat.sub_add_cancel hb, BitVec.ofNat_toNat, BitVec.setWidth_eq] at he
    · cases h

theorem encode_of_decodeArmor {b : BitVec 8} (h : decodeArmor b args = .ok i) : encode i = ⟨.armor b, args⟩ := by
  unfold decodeArmor at h
  split at h
  · next f hf =>
    split at h
    · next d => cases h; exact encode_of_armorRow hf d
    · cases h
  · cases h

theorem encode_of_decodeText {v : BitVec 6} (h : decodeText v args = .ok i) : encode i = ⟨.text v, args⟩ := by
  unfold decodeText at h
  split at h
  · next f hf =>
    split at h
    · next d =>
      cases h
      have he := congrFun (apply_eq_of_map_eq_map_range encode_textRows hf) d
      rwa [BitVec.ofNat_toNat, BitVec.setWidth_eq] at he
    · cases h
  · cases h

/-- A type with a Position row is encoded with its number; the one type with the empty place is 5. -/
theorem encode_of_posTypeRow {ty : BitVec 6} {r : Option (PosUse → Instr)} (h : posTypeRows[ty.toNat]? = some r) :
    (∃ f, r = some f ∧ ∀ u, encode (f u) = ⟨.msg ty, u.args⟩) ∨ (r = none ∧ ty = 5#6) := by
  have he := apply_eq_of_map_eq_map_range encode_posTypeRows h
  rw [BitVec.ofNat_toNat, BitVec.setWidth_eq] at he
  split at he
  · next h5 => exact .inr ⟨Option.map_eq_none_iff.1 he, BitVec.eq_of_toNat_eq h5⟩
  · obtain ⟨f, hr, hf⟩ := Option.map_eq_some_iff.1 he
    exact .inl ⟨f, hr, congrFun hf⟩

theorem encode_of_decodeMsg {ty : BitVec 6} (h : decodeMsg ty args = .ok i) : encode i = ⟨.msg ty, args⟩ := by
  unfold decodeMsg at h
  split at h
  · next f hf =>
    obtain ⟨g, hg, he⟩ | ⟨hn, -⟩ := encode_of_posTypeRow hf
    · cases hg
      split at h
      · next rest => cases h; exact he (.rx rest)
      · next op => cases h; exact he (.tx op)
      · cases h
    · cases hn
  · next hf =>
    obtain ⟨g, hg, -⟩ | ⟨-, rfl⟩ := encode_of_posTypeRow hf
    · cases hg
    · split at h
      · cases h; rfl
      · cases h; rfl
      · cases h
  · cases h

theorem encode_of_decodeKind {k : BitVec 2} (h : decodeKind k args = .ok i) : encode i = ⟨.kind k, args⟩ := by
  unfold decodeKind at h
  split at h
  · next hk =>
    cases h
    have he := apply_eq_of_map_eq_map_range encode_kindRows hk
    rwa [BitVec.ofNat_toNat, BitVec.setWidth_eq] at he
  · cases h
  · cases h

theorem encode_of_decodeCause {k : BitVec 4} (h : decodeCause k args = .ok i) : encode i = ⟨.cause k, args⟩ := by
  unfold decodeCause at h
  split at h
  · next hk =>
    cases h
    have he := apply_eq_of_map_eq_map_range encode_causeRows hk
    rwa [BitVec.ofNat_toNat, BitVec.setWidth_eq] at he
  · cases h
  · cases h

theorem encode_of_decodeSentence {tag : BitVec 48} (h : decodeSentence tag args = .ok i) : encode i = ⟨.sentence tag, args⟩ := by
  unfold decodeSentence at h
  split at h
  · next ht =>
    subst ht
    split at h
    · cases h; rfl
    · cases h
  · split at h
    · next ht =>
      subst ht
      split at h
      · cases h; rfl
      · cases h
    · cases h

/-- The operation codes are the numbers of the host operations. -/
theorem encode_of_decodeCmd {k : BitVec 3} (h : decodeCmd k args = .ok i) : encode i = ⟨.cmd k, args⟩ := by
  have hk : k = BitVec.ofNat 3 k.toNat := (BitVec.ofNat_toNat 3 k).symm
  rw [hk]
  unfold decodeCmd at h
  generalize k.toNat = n at h ⊢
  split at h
  case h_3 | h_4 =>
    obtain ⟨d, rfl, rfl⟩ := withDraw_eq_ok h
    rfl
  case h_9 => cases h
  all_goals cases h; rfl

/-- The micro-operations are selected by name (log 4). -/
theorem encode_of_decodeMicro {m : Micro} (h : decodeMicro m args = .ok i) : encode i = ⟨.micro m, args⟩ := by
  cases m with
  | emtSeq | emt =>
    simp only [decodeMicro] at h
    split at h
    · obtain ⟨d, rfl, rfl⟩ := withDraw_eq_ok h
      rfl
    · cases h
  | _ =>
    simp only [decodeMicro] at h
    split at h
    · cases h; rfl
    · cases h

theorem encode_of_decodeRaw (h : decodeRaw c = .ok i) : encode i = c := by
  obtain ⟨code, args⟩ := c
  cases code with
  | cmd k => exact encode_of_decodeCmd h
  | sentence tag => exact encode_of_decodeSentence h
  | msg ty => exact encode_of_decodeMsg h
  | armor b => exact encode_of_decodeArmor h
  | text v => exact encode_of_decodeText h
  | kind k => exact encode_of_decodeKind h
  | cause k => exact encode_of_decodeCause h
  | micro m => exact encode_of_decodeMicro h
  | unassigned w => cases h

/-! ### The decoder with its checks -/

theorem decode_encode (h : WellFormed p i = true) : decode p (encode i) = .ok i :=
  have hw := wellFormed_iff.1 h
  decode_eq_ok_iff.2 ⟨decodeRaw_encode hw, hw⟩

theorem decode_eq_ok_of_encode_eq (hc : encode i = c) (hw : WellFormed p i = true) : decode p c = .ok i := hc ▸ decode_encode hw

theorem decode_armor_of_no_row {b : BitVec 8} (h : armorRow b = none) : decode p ⟨.armor b, args⟩ = .error .noSuchCode := by
  simp only [decode, decodeRaw, decodeArmor, h]

theorem decodeTableWord_eq_some {nbits w : Nat} (hc : tableCommand nbits w = encode i)
    (hw : WellFormed Config.Params.default i = true) : decodeTableWord nbits w = some i := by
  simp only [decodeTableWord, decode_eq_ok_of_encode_eq hc.symm hw]

/-! ### The obligations -/

/-- Settles O3: each instruction's command spells it, and a well-formed instruction passes the checks. -/
theorem decodeReadsEncodedInstruction : Obligations.DecodeReadsEncodedInstruction := fun _ _ => decode_encode

/-- Settles O4, format by format: every row of a format's table is encoded with the code that selects it. -/
theorem encodeRestoresDecodedCommand : Obligations.EncodeRestoresDecodedCommand :=
  fun _ _ _ h => encode_of_decodeRaw (decode_eq_ok_iff.1 h).1

/-- Settles O2: each command written out is the encoding of its instruction, and 0x58 is no byte of the alphabet. -/
theorem tableCodesDecode : Obligations.TableCodesDecode :=
  ⟨decode_eq_ok_of_encode_eq rfl rfl, decode_eq_ok_of_encode_eq rfl rfl, decode_eq_ok_of_encode_eq rfl rfl,
    decode_eq_ok_of_encode_eq rfl rfl, decode_eq_ok_of_encode_eq rfl rfl, decode_eq_ok_of_encode_eq rfl rfl,
    decode_eq_ok_of_encode_eq rfl rfl, decode_eq_ok_of_encode_eq rfl rfl, decode_eq_ok_of_encode_eq rfl rfl,
    decode_armor_of_no_row rfl, decodeTableWord_eq_some rfl rfl, decodeTableWord_eq_some rfl rfl⟩

end Sys2Proof
end

section
/-! SUPPORT. The rows of the two alphabets, of the message type, of the sentence tag and of the response (spec 30_encoding.md R72,
R79, R80, R81, R86): one equation for all rows of a table, and what that common meaning does. -/

namespace Sys2Proof.Machine

variable {cfg : Config.Params} {s : State}

/-! ### One meaning for all rows of a table -/

/-- R79, log 15: the list of the rows' meanings is, row for row, that of `armorChar` at the byte and value printed. -/
theorem exec_armorInstrs {r : Byte × Nat × (Dir → Instr)} (hr : r ∈ armorInstrs) (d : Dir) (s : State) :
    exec (r.2.2 d) s = .next (armorChar r.1 r.2.1 d s) :=
  have h : armorInstrs.map (fun r d s => exec (r.2.2 d) s) =
      armorInstrs.map (fun r d s => .next (armorChar r.1 r.2.1 d s)) := rfl
  congrFun₂ (List.map_inj_left.1 h r hr) d s

/-- R80, log 15: likewise `textGroup` at the value and character printed. -/
theorem exec_textInstrs {r : Nat × Byte × (Dir → Instr)} (hr : r ∈ textInstrs) (d : Dir) (s : State) :
    exec (r.2.2 d) s = .next (textGroup r.1 r.2.1 d s) :=
  have h : textInstrs.map (fun r d s => exec (r.2.2 d) s) =
      textInstrs.map (fun r d s => .next (textGroup r.1 r.2.1 d s)) := rfl
  congrFun₂ (List.map_inj_left.1 h r hr) d s

/-- R81, log 16: likewise `positionType` at the type. -/
theorem exec_posTypeInstrs {r : Nat × (PosUse → Instr)} (hr : r ∈ posTypeInstrs) (u : PosUse) (s : State) :
    exec (r.2 u) s = .next (positionType r.1 u s) :=
  have h : posTypeInstrs.map (fun r u s => exec (r.2 u) s) =
      posTypeInstrs.map (fun r u s => .next (positionType r.1 u s)) := rfl
  congrFun₂ (List.map_inj_left.1 h r hr) u s

/-- R81, log 16: a received message of type 5 takes the path of its type as the others do. -/
theorem exec_msgtype5_rx (rest : Bits) (s : State) : exec (.msgtype5 (.rx rest)) s = .next (receiveType 5 rest s) := rfl

/-- R86, log 18: the rows of causes 2 to 13 take the drop or fault of the cause. -/
theorem exec_abortInstrs {r : Instr × Cause} (hr : r ∈ abortInstrs) (s : State) : exec r.1 s = .next (s.abort r.2) :=
  have h : abortInstrs.map (fun r s => exec r.1 s) = abortInstrs.map (fun r s => .next (s.abort r.2)) := rfl
  congrFun (List.map_inj_left.1 h r hr) s

/-! ### What the tables print beside the rows -/

/-- R79: the byte of a value, with the gap between 39 and 40. -/
theorem armorInstrs_byte {r : Byte × Nat × (Dir → Instr)} (hr : r ∈ armorInstrs) :
    r.1.toNat = (if r.2.1 < 40 then r.2.1 + 48 else r.2.1 + 56) ∧ r.2.1 < 64 :=
  have h : ∀ r ∈ armorInstrs, r.1.toNat = (if r.2.1 < 40 then r.2.1 + 48 else r.2.1 + 56) ∧ r.2.1 < 64 := by decide
  h r hr

/-- R80: the character of a group value, the letters before the digits. -/
theorem textInstrs_char {r : Nat × Byte × (Dir → Instr)} (hr : r ∈ textInstrs) :
    r.2.1.toNat = (if r.1 < 32 then r.1 + 64 else r.1) ∧ r.1 < 64 :=
  have h : ∀ r ∈ textInstrs, r.2.1.toNat = (if r.1 < 32 then r.1 + 64 else r.1) ∧ r.1 < 64 := by decide
  h r hr

/-- R81: every type but 5. -/
theorem posTypeInstrs_type {r : Nat × (PosUse → Instr)} (hr : r ∈ posTypeInstrs) : r.1 < 64 ∧ r.1 ≠ 5 :=
  have h : ∀ r ∈ posTypeInstrs, r.1 < 64 ∧ r.1 ≠ 5 := by decide
  h r hr

/-! ### Operations that end -/

theorem endsWith_abort (s : State) (c : Cause) : endsWith s c (.next (s.abort c)) := ⟨_, rfl, rfl, rfl, rfl, rfl⟩

/-! ### Message types -/

theorem layoutOf_position {ty len : Nat} (ht : ty ∈ [1, 2, 3]) (hl : 168 ≤ len) : layoutOf ty len = .ok .position := by
  have h5 : ty ≠ 5 := by rintro rfl; exact absurd ht (by decide)
  simp only [List.mem_cons, List.not_mem_nil, or_false] at ht
  simp only [layoutOf, h5, ht, Config.posMinBits, Nat.not_lt.2 hl, if_true, if_false]

theorem layoutOf_position_short {ty len : Nat} (ht : ty ∈ [1, 2, 3]) (hl : len < 168) :
    layoutOf ty len = .error .dropShort := by
  have h5 : ty ≠ 5 := by rintro rfl; exact absurd ht (by decide)
  simp only [List.mem_cons, List.not_mem_nil, or_false] at ht
  simp only [layoutOf, h5, ht, Config.posMinBits, hl, if_true, if_false]

theorem layoutOf_other {ty : Nat} (h5 : ty ≠ 5) (ht : ty ∉ [1, 2, 3]) (len : Nat) : layoutOf ty len = .error .dropType := by
  simp only [List.mem_cons, List.not_mem_nil, or_false] at ht
  simp only [layoutOf, h5, ht, if_false]

theorem layoutOf_static {len : Nat} (hl : 424 ≤ len) : layoutOf 5 len = .ok .static := if_neg (Nat.not_lt.2 hl)

theorem layoutOf_static_short {len : Nat} (hl : len < 424) : layoutOf 5 len = .error .dropShort := if_pos hl

theorem receiveType_of_ok {ty : Nat} {rest : Bits} {l : Layout} (h : layoutOf ty (6 + rest.length) = .ok l) (s : State) :
    receiveType ty rest s = decodeLayout (s.withBits (bitsW 6 ty ++ rest)) l := by
  simp only [receiveType, Config.typeW, h]

theorem receiveType_of_error {ty : Nat} {rest : Bits} {c : Cause} (h : layoutOf ty (6 + rest.length) = .error c) (s : State) :
    receiveType ty rest s = s.abort c := by
  simp only [receiveType, Config.typeW, h]

/-- R210, R332: POS.ENCODE refuses a type other than 1, 2 and 3. -/
theorem posEncodeInto_of_other_type {ty : Nat} (ht : ty ∉ [1, 2, 3]) (op : PosOperand) (s : State) :
    posEncodeInto s { op with msgType := ty } = s.abort .encType := by
  have he : posEncode { op with msgType := ty } = .error .encType := by
    simp only [List.mem_cons, List.not_mem_nil, or_false] at ht
    have hty : ¬((ty : Int) = 1 ∨ (ty : Int) = 2 ∨ (ty : Int) = 3) := by omega
    exact if_neg hty
  simp only [posEncodeInto, he, State.writeOrAbort_error]

/-! ### Sentence tags -/

/-- R104: the first field is where the body begins. -/
theorem splitComma_head_prefix {body f : Bytes} {fs : List Bytes} (h : splitComma body = f :: fs) : f <+: body := by
  induction body generalizing f fs with
  | nil => cases h; exact List.nil_prefix
  | cons c cs ih =>
    unfold splitComma at h
    split at h
    · cases h; exact List.nil_prefix
    · split at h
      · cases h; exact List.prefix_cons_inj c |>.2 List.nil_prefix
      · next g gs hg => cases h; exact List.prefix_cons_inj c |>.2 (ih hg)

theorem fieldsOf_f0_prefix {body : Bytes} {f : Fields} (h : fieldsOf body = .ok f) : f.f0 <+: body := by
  unfold fieldsOf at h
  split at h
  · next hs => cases h; exact splitComma_head_prefix hs
  · cases h

/-- R103: the body is what begins after the first byte. -/
theorem frameOf_body_prefix {str : Bytes} {fr : Frame} (h : frameOf str = .ok fr) : fr.body <+: str.drop 1 := by
  unfold frameOf at h
  dsimp only at h
  split at h
  · cases h
  · split at h
    · cases h
    · cases h; exact List.take_prefix _ _

theorem length_of_tagOf {f : Bytes} {v : BitVec 1} (h : tagOf f = .ok v) : f.length = 5 := by
  unfold tagOf at h
  split at h
  · next hf => rw [hf]; rfl
  · split at h
    · next hf => rw [hf]; rfl
    · cases h

/-- R104: TAG is that of the five bytes after the first. -/
theorem tagOf_of_parseLine {tag rest : Bytes} {p : Parsed} (ht : tag.length = 5)
    (h : parseLine cfg ([0x21#8] ++ tag ++ rest) = .ok p) : tagOf tag = .ok p.tag := by
  obtain ⟨-, fr, f, hfr, hf, htag, -⟩ := parseLine_eq_ok h
  have hpre : f.f0 <+: tag ++ rest := (fieldsOf_f0_prefix hf).trans (frameOf_body_prefix hfr)
  have hlen : f.f0.length = tag.length := (length_of_tagOf htag).trans ht.symm
  have heq : f.f0 = tag := (List.prefix_of_prefix_length_le hpre (List.prefix_append tag rest) hlen.le).eq_of_length hlen
  exact heq ▸ htag

/-- R28, R113: an admitted line stands in LINE, and its parse registers are written. -/
theorem parseInto_of_ok {line : Bytes} {p : Parsed} (h : parseLine s.cfg line = .ok p) :
    parseInto s line = s.withTr (Transients.withParsed { s.tr with line := line } p) := by
  simp only [parseInto, h, State.writeOrAbort_ok, State.withTr_withTr, State.withTr_tr]

theorem endsWith_parseInto {line : Bytes} {c : Cause} (h : parseLine s.cfg line = .error c) :
    endsWith s c (.next (parseInto s line)) := by
  simp only [parseInto, h, State.writeOrAbort_error, State.abort_withTr]
  exact endsWith_abort s c

/-! ### The obligations -/

/-- Settles O38: every row is `armorChar` of its byte and value. -/
theorem armorRowsAppend : Obligations.ArmorRowsAppend := by
  refine ⟨rfl, fun r hr s => ?_⟩
  obtain ⟨hbyte, hlt⟩ := armorInstrs_byte hr
  exact ⟨hbyte, hlt, ⟨_, exec_armorInstrs hr .rx s, bitsW_length 6 _, uint_bitsW hlt⟩, exec_armorInstrs hr .tx s⟩

/-- Settles O45: every row is `textGroup` of its value and character. -/
theorem textRowsAppend : Obligations.TextRowsAppend := by
  refine ⟨rfl, fun r hr s => ?_⟩
  obtain ⟨hchar, hlt⟩ := textInstrs_char hr
  exact ⟨hchar, hlt, exec_textInstrs hr .rx s, _, exec_textInstrs hr .tx s, bitsW_length 6 _, uint_bitsW hlt⟩

/-- Settles O57: every row but that of type 5 is `positionType` of its type, and the layout chosen goes by type and length. -/
theorem messageTypeRows : Obligations.MessageTypeRows := by
  refine ⟨rfl, fun r hr s rest op => ?_, fun s rest op => ⟨fun hl => ?_, fun hl => ?_, _, rfl, rfl⟩⟩
  · obtain ⟨hlt, h5⟩ := posTypeInstrs_type hr
    have hrx : exec (r.2 (.rx rest)) s = .next (receiveType r.1 rest s) := exec_posTypeInstrs hr (.rx rest) s
    have htx : exec (r.2 (.tx op)) s = .next (posEncodeInto s { op with msgType := r.1 }) := exec_posTypeInstrs hr (.tx op) s
    refine ⟨hlt, h5, fun ht => ⟨fun hl => ?_, fun hl => ?_, _, htx, rfl⟩, fun ht => ⟨?_, ?_⟩⟩
    · rw [hrx, receiveType_of_ok (layoutOf_position ht hl)]
      exact ⟨_, bitsW 6 r.1, rfl, bitsW_length 6 _, uint_bitsW hlt, rfl⟩
    · rw [hrx, receiveType_of_error (layoutOf_position_short ht hl)]
      exact endsWith_abort s _
    · rw [hrx, receiveType_of_error (layoutOf_other h5 ht _)]
      exact endsWith_abort s _
    · rw [htx, posEncodeInto_of_other_type ht]
      exact endsWith_abort s _
  · rw [exec_msgtype5_rx, receiveType_of_ok (layoutOf_static hl)]
    exact ⟨_, bitsW 6 5, rfl, bitsW_length 6 _, uint_bitsW (by decide), rfl⟩
  · rw [exec_msgtype5_rx, receiveType_of_error (layoutOf_static_short hl)]
    exact endsWith_abort s _

/-- Settles O58: a sentence row is PARSE of its sentence, whose first field begins with the tag. -/
theorem sentenceRowsParse : Obligations.SentenceRowsParse := by
  intro s rest
  refine ⟨⟨_, rfl, rfl⟩, ⟨_, rfl, rfl⟩, fun p hp => ⟨?_, ?_⟩, fun p hp => ⟨?_, ?_⟩, fun c hc => ?_, fun c hc => ?_⟩
  · exact (Except.ok.inj (tagOf_of_parseLine rfl hp)).symm
  · exact congrArg _ (parseInto_of_ok hp)
  · exact (Except.ok.inj (tagOf_of_parseLine rfl hp)).symm
  · exact congrArg _ (parseInto_of_ok hp)
  · exact endsWith_parseInto hc
  · exact endsWith_parseInto hc

/-- Settles O59: the rows of causes 2 to 13 take their drop or fault; every other row is one write of the response. -/
theorem responseRows : Obligations.ResponseRows := by
  intro s
  refine ⟨rfl, rfl, rfl, rfl, rfl, rfl, fun r hr => ?_, rfl, rfl⟩
  rw [exec_abortInstrs hr]
  exact endsWith_abort s r.2

end Sys2Proof.Machine
end

section
/-! SUPPORT. The steps of the Checksum Verifier and of the Sentence Parser (spec 40_parser_checksum.md R100 to R112): for each the
values it answers with and the strings it drops. -/

namespace Sys2Proof.Machine

variable {cfg : Config.Params}

/-! ### The checksum of a body (R100) -/

/-- The loop of CHK.XOR from any start. -/
theorem foldl_xor_eq (body : Bytes) (c : Byte) : body.foldl (fun c b => c ^^^ b) c = c ^^^ xorBytes body := by
  induction body generalizing c with
  | nil => exact (BitVec.xor_zero).symm
  | cons x xs ih =>
    have hcons : xorBytes (x :: xs) = xs.foldl (fun c b => c ^^^ b) (0#8 ^^^ x) := rfl
    rw [List.foldl_cons, hcons, ih, ih, BitVec.zero_xor, BitVec.xor_assoc]

theorem xorBytes_append (a b : Bytes) : xorBytes (a ++ b) = xorBytes a ^^^ xorBytes b := by
  rw [xorBytes, List.foldl_append, foldl_xor_eq b]
  rfl

theorem xorBytes_cons (x : Byte) (xs : Bytes) : xorBytes (x :: xs) = x ^^^ xorBytes xs := by
  rw [← List.singleton_append, xorBytes_append, show xorBytes [x] = x from BitVec.zero_xor]

theorem parityBit_cons (x : Byte) (xs : Bytes) (i : Nat) : parityBit (x :: xs) i = (x.getLsbD i ^^ parityBit xs i) := by
  cases hx : x.getLsbD i
  · simp [parityBit, hx]
  · rcases Nat.mod_two_eq_zero_or_one (xs.filter (fun c => c.getLsbD i)).length with h | h <;>
      simp [parityBit, hx, Nat.add_mod, h]

/-- R100: each bit of the checksum is a parity. -/
theorem getLsbD_xorBytes (body : Bytes) (i : Nat) : (xorBytes body).getLsbD i = parityBit body i := by
  induction body with
  | nil => exact BitVec.getLsbD_zero
  | cons x xs ih => rw [xorBytes_cons, parityBit_cons, BitVec.getLsbD_xor, ih]

theorem checksumOk_iff_xorBytes {body : Bytes} {ck : Byte} : checksumOk body ck = true ↔ xorBytes body = ck := beq_iff_eq

/-- R102: the checksum is a body's own when every bit of it is the parity. -/
theorem checksumOk_iff {body : Bytes} {ck : Byte} :
    checksumOk body ck = true ↔ ∀ i, i < 8 → ck.getLsbD i = parityBit body i := by
  rw [checksumOk_iff_xorBytes]
  constructor
  · rintro rfl i -
    exact getLsbD_xorBytes body i
  · intro h
    exact BitVec.eq_of_getLsbD_eq fun i hi => (getLsbD_xorBytes body i).trans (h i hi).symm

theorem checksumOk_eq_false_iff {body : Bytes} {ck : Byte} :
    checksumOk body ck = false ↔ ∃ i, i < 8 ∧ ck.getLsbD i ≠ parityBit body i := by
  rw [← Bool.not_eq_true, checksumOk_iff]
  push Not
  rfl

/-- R102: one byte changed changes the checksum. -/
theorem xorBytes_set_ne {body : Bytes} {j : Nat} {b : Byte} (hj : j < body.length) (hb : body[j] ≠ b) :
    xorBytes (body.set j b) ≠ xorBytes body := by
  intro h
  rw [List.set_eq_take_append_cons_drop, if_pos hj] at h
  have hbody : body = body.take j ++ body[j] :: body.drop (j + 1) := by
    rw [List.getElem_cons_drop, List.take_append_drop]
  conv at h => rhs; rw [hbody]
  rw [xorBytes_append, xorBytes_append, xorBytes_cons, xorBytes_cons] at h
  exact hb (BitVec.xor_left_inj _ |>.1 (BitVec.xor_right_inj _ |>.1 h)).symm

theorem hexPair_of_some {h l : Byte} {a b : Nat} (ha : hexVal h = some a) (hb : hexVal l = some b) :
    hexPair h l = some (BitVec.ofNat 8 (16 * a + b)) := by
  simp only [hexPair, ha, hb]

theorem hexPair_of_none {h l : Byte} (hn : hexVal h = none ∨ hexVal l = none) : hexPair h l = none := by
  unfold hexPair
  split
  · next ha hb => simp [ha, hb] at hn
  · rfl

/-! ### The frame (R103) -/

/-- A string of at least four bytes, by its first byte and its last three. -/
theorem exists_frame_shape {str : Bytes} (hn : 4 ≤ str.length) :
    ∃ first body star h l, str = [first] ++ body ++ [star, h, l] := by
  obtain ⟨first, rest, rfl⟩ := List.exists_cons_of_length_pos (Nat.lt_of_lt_of_le (by decide) hn)
  rw [List.length_cons] at hn
  obtain ⟨star, h, l, hlast⟩ := List.length_eq_three.1 (show (rest.drop (rest.length - 3)).length = 3 by
    rw [List.length_drop]; omega)
  refine ⟨first, rest.take (rest.length - 3), star, h, l, ?_⟩
  rw [← hlast, List.append_assoc, List.take_append_drop]
  rfl

theorem frameOf_of_short {str : Bytes} (hn : str.length < 4) : frameOf str = .error .dropGrammar := if_pos (.inl hn)

theorem frameOf_of_shape (first : Byte) (body : Bytes) (star h l : Byte) :
    frameOf ([first] ++ body ++ [star, h, l]) =
      if first = 0x21#8 ∧ star = 0x2A#8 ∧ 0x2A#8 ∉ body then .ok ⟨body, h, l⟩ else .error .dropGrammar := by
  have hn : ([first] ++ body ++ [star, h, l]).length = body.length + 4 := by simp
  have hstar : ([first] ++ body ++ [star, h, l])[body.length + 1]? = some star := by simp
  have hh : ([first] ++ body ++ [star, h, l]).getD (body.length + 2) 0 = h := by simp [List.getD]
  have hl : ([first] ++ body ++ [star, h, l]).getD (body.length + 3) 0 = l := by simp [List.getD]
  have hbody : (([first] ++ body ++ [star, h, l]).drop 1).take body.length = body := by simp
  have hfirst : ([first] ++ body ++ [star, h, l])[0]? = some first := rfl
  unfold frameOf
  simp only [hn, Nat.add_sub_cancel, show body.length + 4 - 3 = body.length + 1 from rfl,
    show body.length + 4 - 2 = body.length + 2 from rfl, show body.length + 4 - 1 = body.length + 3 from rfl,
    hfirst, hstar, hh, hl, hbody, List.contains_iff_mem, Option.some.injEq, ne_eq,
    show ¬ body.length + 4 < 4 from Nat.not_lt.2 (Nat.le_add_left ..), false_or]
  by_cases hframe : first = 0x21#8 ∧ star = 0x2A#8
  · obtain ⟨rfl, rfl⟩ := hframe
    by_cases hb : 0x2A#8 ∈ body <;> simp [hb]
  · rw [if_pos (Classical.not_and_iff_not_or_not.1 hframe), if_neg fun h => hframe ⟨h.1, h.2.1⟩]

theorem frameOf_framed {body : Bytes} (hb : 0x2A#8 ∉ body) (h l : Byte) :
    frameOf ([0x21#8] ++ body ++ [0x2A#8, h, l]) = .ok ⟨body, h, l⟩ := by
  rw [frameOf_of_shape, if_pos ⟨rfl, rfl, hb⟩]

/-- Everything PARSE.FRAME can answer. -/
theorem frameOf_cases (str : Bytes) :
    (∃ body h l, 0x2A#8 ∉ body ∧ str = [0x21#8] ++ body ++ [0x2A#8, h, l] ∧ frameOf str = .ok ⟨body, h, l⟩) ∨
    ((¬ ∃ body h l, 0x2A#8 ∉ body ∧ str = [0x21#8] ++ body ++ [0x2A#8, h, l]) ∧ frameOf str = .error .dropGrammar) := by
  rcases Classical.em (∃ body h l, 0x2A#8 ∉ body ∧ str = [0x21#8] ++ body ++ [0x2A#8, h, l]) with hf | hf
  · obtain ⟨body, h, l, hb, rfl⟩ := hf
    exact .inl ⟨body, h, l, hb, rfl, frameOf_framed hb h l⟩
  · refine .inr ⟨hf, ?_⟩
    rcases Nat.lt_or_ge str.length 4 with hn | hn
    · exact frameOf_of_short hn
    · obtain ⟨first, body, star, h, l, rfl⟩ := exists_frame_shape hn
      rw [frameOf_of_shape, if_neg]
      rintro ⟨rfl, rfl, hb⟩
      exact hf ⟨body, h, l, hb, rfl⟩

/-! ### The seven fields (R104) -/

/-- R104: the split is the library's. -/
theorem splitComma_eq_splitOn (body : Bytes) : splitComma body = body.splitOn 0x2C#8 := by
  induction body with
  | nil => exact (List.splitOn_nil _).symm
  | cons c cs ih =>
    rw [List.splitOn_cons_eq_if_modifyHead, splitComma, ih]
    by_cases hc : c = 0x2C#8
    · simp [hc]
    · rcases hs : cs.splitOn 0x2C#8 with _ | ⟨f, fs⟩
      · exact absurd hs (List.splitOn_ne_nil _ _)
      · simp [hc]

theorem not_mem_of_mem_splitComma {body f : Bytes} (hf : f ∈ splitComma body) : 0x2C#8 ∉ f := by
  induction body generalizing f with
  | nil => simp [splitComma] at hf; simp [hf]
  | cons c cs ih =>
    unfold splitComma at hf
    split at hf
    · rcases List.mem_cons.1 hf with rfl | hf
      · exact List.not_mem_nil
      · exact ih hf
    · next hc =>
      split at hf
      · next hs => exact absurd (splitComma_eq_splitOn cs ▸ hs) (List.splitOn_ne_nil _ _)
      · next g gs hs =>
        rw [hs] at ih
        rcases List.mem_cons.1 hf with rfl | hf
        · exact List.not_mem_cons_of_ne_of_not_mem (Ne.symm hc) (ih List.mem_cons_self)
        · exact ih (List.mem_cons_of_mem _ hf)

/-- R104: a body with `m` commas gives `m + 1` fields. -/
theorem splitComma_length (body : Bytes) : (splitComma body).length = (body.filter (fun c => c == 0x2C#8)).length + 1 := by
  induction body with
  | nil => rfl
  | cons c cs ih =>
    unfold splitComma
    split
    · next hc => simp [hc, ih]
    · next hc =>
      split
      · next hs => exact absurd (splitComma_eq_splitOn cs ▸ hs) (List.splitOn_ne_nil _ _)
      · next f fs hs => simpa [hc, hs] using ih

/-- The body that the seven fields make (R71). -/
def Fields.body (f : Fields) : Bytes := [0x2C#8].intercalate f.toList

theorem fieldsOf_body {f : Fields} (hf : ∀ x ∈ f.toList, 0x2C#8 ∉ x) : fieldsOf f.body = .ok f := by
  have hs : splitComma f.body = f.toList := by
    rw [splitComma_eq_splitOn, Fields.body, List.splitOn_intercalate _ hf (List.cons_ne_nil _ _)]
  simp only [fieldsOf, hs, Fields.toList]

/-- Everything PARSE.SPLIT's division of a body can answer. -/
theorem fieldsOf_cases (body : Bytes) :
    (∃ f : Fields, body = f.body ∧ (∀ x ∈ f.toList, 0x2C#8 ∉ x) ∧ fieldsOf body = .ok f) ∨
    ((body.filter (fun c => c == 0x2C#8)).length ≠ 6 ∧ fieldsOf body = .error .dropGrammar) := by
  have hlen := splitComma_length body
  unfold fieldsOf
  split
  · next f0 f1 f2 f3 f4 f5 f6 hs =>
    have hfields : Fields.toList ⟨f0, f1, f2, f3, f4, f5, f6⟩ = splitComma body := hs.symm
    refine .inl ⟨⟨f0, f1, f2, f3, f4, f5, f6⟩, ?_, fun x hx => not_mem_of_mem_splitComma (hfields ▸ hx), rfl⟩
    rw [Fields.body, hfields, splitComma_eq_splitOn, List.intercalate_splitOn]
  · next hs =>
    refine .inr ⟨fun h6 => ?_, rfl⟩
    rw [h6] at hlen
    match hb : splitComma body, hlen with
    | [f0, f1, f2, f3, f4, f5, f6], _ => exact hs f0 f1 f2 f3 f4 f5 f6 hb

theorem fieldsOf_of_commas {body : Bytes} (h : (body.filter (fun c => c == 0x2C#8)).length ≠ 6) :
    fieldsOf body = .error .dropGrammar := by
  rcases fieldsOf_cases body with ⟨f, hbody, hf, hok⟩ | ⟨-, herr⟩
  · have hlen := splitComma_length body
    rw [splitComma_eq_splitOn, hbody, Fields.body, List.splitOn_intercalate _ hf (List.cons_ne_nil _ _), ← Fields.body,
      ← hbody] at hlen
    exact absurd (Nat.succ.inj hlen).symm h
  · exact herr

theorem tagOf_aivdm : tagOf aivdmBytes = .ok 0 := rfl
theorem tagOf_aivdo : tagOf aivdoBytes = .ok 1 := rfl

theorem tagOf_of_other {f : Bytes} (hm : f ≠ aivdmBytes) (ho : f ≠ aivdoBytes) : tagOf f = .error .dropGrammar := by
  simp only [tagOf, hm, ho, if_false]

/-- R104: PARSE.SPLIT on a body that divides is the test of its first field. -/
theorem execParseSplit_of_fields {body : Bytes} {f : Fields} (h : fieldsOf body = .ok f) (s : State) :
    execParseSplit body s =
      .next (s.writeOrAbort (tagOf f.f0) (fun tr tag => { tr with ret := .strs f.toList, tag := tag })) := by
  unfold execParseSplit
  rw [h]
  cases htag : tagOf f.f0 <;> simp only [bind, Except.bind, htag] <;> rfl

/-! ### The numbers (R105 to R107, R111) -/

theorem digitsFrom_eq (v : Nat) (f : Bytes) :
    digitsFrom v f = if f.all isDecimal = true then some (f.foldl (fun v c => 10 * v + (c.toNat - 0x30)) v) else none := by
  induction f generalizing v with
  | nil => rfl
  | cons c cs ih =>
    have hc : isDigit c = isDecimal c := rfl
    rw [digitsFrom, ih, hc, List.all_cons, List.foldl_cons]
    cases isDecimal c <;> rfl

theorem intOf_of_decimal {f : Bytes} (hne : f ≠ []) (hall : f.all isDecimal = true) : intOf f = some (decimalValue f) := by
  rw [intOf, if_neg (by simpa using hne), digitsFrom_eq, if_pos hall, decimalValue]

theorem intOf_of_not_decimal {f : Bytes} (h : f = [] ∨ f.all isDecimal = false) : intOf f = none := by
  rcases h with rfl | h
  · rfl
  · rw [intOf, digitsFrom_eq, h]
    split <;> rfl

theorem intOf_eq_some_iff {f : Bytes} {v : Nat} :
    intOf f = some v ↔ f ≠ [] ∧ f.all isDecimal = true ∧ decimalValue f = v := by
  constructor
  · intro h
    by_cases hd : f = [] ∨ f.all isDecimal = false
    · rw [intOf_of_not_decimal hd] at h
      cases h
    · obtain ⟨hne, hall⟩ := not_or.1 hd
      have hall' := Bool.not_eq_false _ ▸ hall
      rw [intOf_of_decimal hne hall'] at h
      exact ⟨hne, hall', Option.some.inj h⟩
  · rintro ⟨hne, hall, rfl⟩
    exact intOf_of_decimal hne hall

theorem countOf_of_within {f : Bytes} (hne : f ≠ []) (hall : f.all isDecimal = true) (hpos : 1 ≤ decimalValue f)
    (hmax : decimalValue f ≤ cfg.partsMax) : countOf cfg f = .ok (decimalValue f) := by
  simp only [countOf, intOf_of_decimal hne hall]
  rw [if_neg (by omega), if_neg (by omega)]

theorem countOf_of_above {f : Bytes} (hne : f ≠ []) (hall : f.all isDecimal = true) (hpos : 1 ≤ decimalValue f)
    (hmax : cfg.partsMax < decimalValue f) : countOf cfg f = .error .dropLimit := by
  simp only [countOf, intOf_of_decimal hne hall]
  rw [if_neg (by omega), if_pos hmax]

theorem countOf_of_not_positive {f : Bytes} (h : f = [] ∨ f.all isDecimal = false ∨ decimalValue f = 0) :
    countOf cfg f = .error .dropGrammar := by
  unfold countOf
  split
  · rfl
  · next v hv =>
    obtain ⟨hne, hall, rfl⟩ := intOf_eq_some_iff.1 hv
    have hzero : decimalValue f = 0 := by simpa [hne, hall] using h
    rw [if_pos hzero]

theorem fillOf_of_decimal {f : Bytes} {n : Fin 8} (hne : f ≠ []) (hall : f.all isDecimal = true)
    (hv : decimalValue f = n.val) : fillOf f = .ok n := by
  simp only [fillOf, intOf_of_decimal hne hall, hv, n.isLt, dif_pos]

theorem fillOf_of_other {f : Bytes} (h : f = [] ∨ f.all isDecimal = false ∨ 7 < decimalValue f) :
    fillOf f = .error .dropGrammar := by
  unfold fillOf
  split
  · rfl
  · next v hv =>
    obtain ⟨hne, hall, rfl⟩ := intOf_eq_some_iff.1 hv
    have hbig : 7 < decimalValue f := by simpa [hne, hall] using h
    rw [dif_neg (by omega)]

/-! ### The other fields (R108 to R110, R112) -/

theorem seqOf_of_printable {f : Bytes} (h : ∀ c ∈ f, 0x20 ≤ c.toNat ∧ c.toNat ≤ 0x7E) : seqOf f = .ok f :=
  if_pos (List.all_eq_true.2 fun c hc => decide_eq_true (h c hc))

theorem seqOf_of_not_printable {f : Bytes} (h : ∃ c ∈ f, c.toNat < 0x20 ∨ 0x7E < c.toNat) : seqOf f = .error .dropGrammar := by
  obtain ⟨c, hc, hbad⟩ := h
  refine if_neg fun hall => ?_
  have hgood := of_decide_eq_true (List.all_eq_true.1 hall c hc)
  omega

theorem chanOf_of_channel {ch : Byte} (h : ch = 0x41#8 ∨ ch = 0x42#8) : chanOf [ch] = .ok ch := by
  rcases h with rfl | rfl <;> rfl

theorem chanOf_of_other {f : Bytes} (ha : f ≠ [0x41#8]) (hb : f ≠ [0x42#8]) : chanOf f = .error .dropGrammar := by
  simp only [chanOf, ha, hb, if_false]

theorem isArmor_iff {c : Byte} :
    isArmor c = true ↔ (0x30 ≤ c.toNat ∧ c.toNat ≤ 0x57) ∨ (0x60 ≤ c.toNat ∧ c.toNat ≤ 0x77) := by
  simp only [isArmor, Bool.or_eq_true, decide_eq_true_eq]

theorem payloadOf_of_armor {f : Bytes} (h : ∀ c ∈ f, isArmor c = true) : payloadOf f = .ok f :=
  if_pos (List.all_eq_true.2 h)

theorem payloadOf_of_not_armor {f : Bytes} (h : ∃ c ∈ f, isArmor c ≠ true) : payloadOf f = .error .dropGrammar := by
  obtain ⟨c, hc, hbad⟩ := h
  exact if_neg fun hall => hbad (List.all_eq_true.1 hall c hc)

theorem cksumOf_of_some {h l : Byte} {a b : Nat} (ha : hexVal h = some a) (hb : hexVal l = some b) :
    cksumOf h l = .ok (BitVec.ofNat 8 (16 * a + b)) := by
  simp only [cksumOf, hexPair_of_some ha hb]

theorem cksumOf_of_none {h l : Byte} (hn : hexVal h = none ∨ hexVal l = none) : cksumOf h l = .error .dropGrammar := by
  simp only [cksumOf, hexPair_of_none hn]

/-! ### The obligations of the steps -/

/-- A step that drops, as an outcome of its instruction. -/
theorem endsWith_writeOrAbort {α : Type} {s : State} {c : Cause} {r : Except Cause α} (hr : r = .error c)
    (write : Transients → α → Transients) : endsWith s c (.next (s.writeOrAbort r write)) := by
  rw [hr, State.writeOrAbort_error]
  exact endsWith_abort s c

/-- A step that answers, as an outcome of its instruction. -/
theorem next_writeOrAbort {α : Type} {s : State} {a : α} {r : Except Cause α} (hr : r = .ok a)
    (write : Transients → α → Transients) :
    (Host.Outcome.next (s.writeOrAbort r write) : Host.Outcome State Fault Refusal) = .next (s.withTr (write s.tr a)) := by
  rw [hr, State.writeOrAbort_ok]

/-- Settles O20: the checksum is the parity of the body's bytes bit by bit, and a difference in one bit drops. -/
theorem checksumOperations : Obligations.ChecksumOperations := by
  intro s
  refine ⟨fun body => ⟨xorBytes body, rfl, fun i _ => getLsbD_xorBytes body i⟩, fun h l a b ha hb => ?_, fun h l hn => ?_,
    fun body hck => ?_, fun body hck => ?_⟩
  · show Host.Outcome.next (s.returns ((hexPair h l).elim .nothing .byte)) = _
    rw [hexPair_of_some ha hb]
    rfl
  · show Host.Outcome.next (s.returns ((hexPair h l).elim .nothing .byte)) = _
    rw [hexPair_of_none hn]
    rfl
  · exact congrArg Host.Outcome.next (if_pos (checksumOk_iff.2 hck))
  · show endsWith s _ (.next (if checksumOk body s.tr.cksum then s.returns (.truth true) else s.abort .dropChecksum))
    rw [checksumOk_eq_false_iff.2 hck]
    exact endsWith_abort s _

/-- Settles O21, from the shape of a frame and the library's split. -/
theorem frameAndSplit : Obligations.FrameAndSplit := by
  intro s
  refine ⟨fun body h l hb hline => ?_, fun hno => ?_, fun f0 f1 f2 f3 f4 f5 f6 hf => ?_, fun body hcommas => ?_⟩
  · exact next_writeOrAbort (hline ▸ frameOf_framed hb h l) _
  · rcases frameOf_cases s.tr.line with ⟨body, h, l, hb, hline, -⟩ | ⟨-, herr⟩
    · exact absurd ⟨body, h, l, hb, hline⟩ hno
    · exact endsWith_writeOrAbort herr _
  · have hsplit := execParseSplit_of_fields (fieldsOf_body (f := ⟨f0, f1, f2, f3, f4, f5, f6⟩) hf) s
    have hexec : exec (.parseSplit ([0x2C#8].intercalate [f0, f1, f2, f3, f4, f5, f6])) s = _ := hsplit
    rw [hexec]
    refine ⟨?_, ?_, fun hm ho => ?_⟩
    · rintro rfl
      exact next_writeOrAbort tagOf_aivdm _
    · rintro rfl
      exact next_writeOrAbort tagOf_aivdo _
    · exact endsWith_writeOrAbort (tagOf_of_other hm ho) _
  · exact endsWith_writeOrAbort (by rw [fieldsOf_of_commas hcommas]; rfl) _

/-- Settles O22: each field step writes what its own lemma above says, or drops. -/
theorem sentenceFieldOperations : Obligations.SentenceFieldOperations := by
  intro s f
  refine ⟨fun hne hall => ?_, fun h => ?_, fun hne hall hpos hmax => ?_, fun hne hall hpos hmax => ?_, fun h => ?_, fun h => ?_,
    fun h => ?_, ?_, fun ha hb => ?_, fun h => ?_, fun h => ?_, fun n hne hall hv => ?_, fun h => ?_, fun h l a b ha hb => ?_,
    fun h l hn => ?_⟩
  · show Host.Outcome.next (s.returns ((intOf f).elim .nothing .nat)) = _
    rw [intOf_of_decimal hne hall]
    rfl
  · show Host.Outcome.next (s.returns ((intOf f).elim .nothing .nat)) = _
    rw [intOf_of_not_decimal h]
    rfl
  · have hv := countOf_of_within hne hall hpos hmax
    exact ⟨next_writeOrAbort hv _, next_writeOrAbort hv _⟩
  · have hv := countOf_of_above hne hall hpos hmax
    exact ⟨endsWith_writeOrAbort hv _, endsWith_writeOrAbort hv _⟩
  · have hv := countOf_of_not_positive (cfg := s.cfg) h
    exact ⟨endsWith_writeOrAbort hv _, endsWith_writeOrAbort hv _⟩
  · exact next_writeOrAbort (seqOf_of_printable h) _
  · exact endsWith_writeOrAbort (seqOf_of_not_printable h) _
  · rintro ch hch rfl
    exact next_writeOrAbort (chanOf_of_channel hch) _
  · exact endsWith_writeOrAbort (chanOf_of_other ha hb) _
  · exact next_writeOrAbort (payloadOf_of_armor fun c hc => isArmor_iff.2 (h c hc)) _
  · exact endsWith_writeOrAbort (payloadOf_of_not_armor (by simpa only [ne_eq, isArmor_iff] using h)) _
  · exact next_writeOrAbort (fillOf_of_decimal hne hall hv) _
  · exact endsWith_writeOrAbort (fillOf_of_other h) _
  · exact next_writeOrAbort (cksumOf_of_some ha hb) _
  · exact endsWith_writeOrAbort (cksumOf_of_none hn) _

end Sys2Proof.Machine
end

section
/-! SUPPORT. PARSE as the sequence of its steps (spec 40_parser_checksum.md R113 to R117): what it answers on a sentence of the
grammar, what any string it does not drop for grammar or a limit must be, and what a dropped sentence leaves behind. -/

namespace Sys2Proof.Machine

variable {cfg : Config.Params}

/-! ### What a sequence of steps can answer -/

/-- A step answers a value of which `P` holds, or drops for a cause of which `E` holds. -/
def Answers {α : Type} (P : α → Prop) (E : Cause → Prop) : Except Cause α → Prop
  | .ok a => P a
  | .error c => E c

theorem Answers.bind {α β : Type} {P : α → Prop} {Q : β → Prop} {E : Cause → Prop} {x : Except Cause α}
    {f : α → Except Cause β} (hx : Answers P E x) (hf : ∀ a, P a → Answers Q E (f a)) : Answers Q E (x >>= f) := by
  cases x with
  | ok a => exact hf a hx
  | error c => exact hx

theorem Answers.of_ok {α : Type} {P : α → Prop} {E : Cause → Prop} {x : Except Cause α} {a : α} (hx : x = .ok a) (h : P a) :
    Answers P E x := hx ▸ h

theorem Answers.of_error {α : Type} {P : α → Prop} {E : Cause → Prop} {x : Except Cause α} {c : Cause} (hx : x = .error c)
    (h : E c) : Answers P E x := hx ▸ h

/-! ### The steps of PARSE -/

section Steps
variable {E : Cause → Prop} (hg : E .dropGrammar)
include hg

theorem answers_frameOf (str : Bytes) :
    Answers (fun fr => 0x2A#8 ∉ fr.body ∧ str = [0x21#8] ++ fr.body ++ [0x2A#8, fr.h, fr.l]) E (frameOf str) := by
  rcases frameOf_cases str with ⟨body, h, l, hb, hstr, hok⟩ | ⟨-, herr⟩
  · exact .of_ok hok ⟨hb, hstr⟩
  · exact .of_error herr hg

theorem answers_fieldsOf (body : Bytes) :
    Answers (fun f => body = f.body ∧ ∀ x ∈ f.toList, 0x2C#8 ∉ x) E (fieldsOf body) := by
  rcases fieldsOf_cases body with ⟨f, hbody, hf, hok⟩ | ⟨-, herr⟩
  · exact .of_ok hok ⟨hbody, hf⟩
  · exact .of_error herr hg

theorem answers_tagOf (f : Bytes) : Answers (fun _ => f = aivdmBytes ∨ f = aivdoBytes) E (tagOf f) := by
  by_cases hm : f = aivdmBytes
  · exact .of_ok (hm ▸ tagOf_aivdm) (.inl hm)
  · by_cases ho : f = aivdoBytes
    · exact .of_ok (ho ▸ tagOf_aivdo) (.inr ho)
    · exact .of_error (tagOf_of_other hm ho) hg

theorem answers_countOf (hl : E .dropLimit) (f : Bytes) :
    Answers (fun _ => f ≠ [] ∧ f.all isDecimal = true ∧ 1 ≤ decimalValue f) E (countOf cfg f) := by
  by_cases hbad : f = [] ∨ f.all isDecimal = false ∨ decimalValue f = 0
  · exact .of_error (countOf_of_not_positive hbad) hg
  · obtain ⟨hne, hall, hzero⟩ : f ≠ [] ∧ f.all isDecimal = true ∧ decimalValue f ≠ 0 := by
      simpa only [not_or, Bool.not_eq_false] using hbad
    have hpos := Nat.one_le_iff_ne_zero.2 hzero
    rcases Nat.lt_or_ge cfg.partsMax (decimalValue f) with hmax | hmax
    · exact .of_error (countOf_of_above hne hall hpos hmax) hl
    · exact .of_ok (countOf_of_within hne hall hpos hmax) ⟨hne, hall, hpos⟩

theorem answers_seqOf (f : Bytes) : Answers (fun _ => ∀ c ∈ f, 0x20 ≤ c.toNat ∧ c.toNat ≤ 0x7E) E (seqOf f) := by
  by_cases h : ∀ c ∈ f, 0x20 ≤ c.toNat ∧ c.toNat ≤ 0x7E
  · exact .of_ok (seqOf_of_printable h) h
  · refine .of_error (seqOf_of_not_printable ?_) hg
    push Not at h
    obtain ⟨c, hc, hbad⟩ := h
    exact ⟨c, hc, by omega⟩

theorem answers_chanOf (f : Bytes) : Answers (fun ch => f = [ch] ∧ (ch = 0x41#8 ∨ ch = 0x42#8)) E (chanOf f) := by
  by_cases ha : f = [0x41#8]
  · exact .of_ok (ha ▸ chanOf_of_channel (.inl rfl)) ⟨ha, .inl rfl⟩
  · by_cases hb : f = [0x42#8]
    · exact .of_ok (hb ▸ chanOf_of_channel (.inr rfl)) ⟨hb, .inr rfl⟩
    · exact .of_error (chanOf_of_other ha hb) hg

theorem answers_payloadOf (f : Bytes) : Answers (fun _ => ∀ c ∈ f, isArmor c = true) E (payloadOf f) := by
  by_cases h : ∀ c ∈ f, isArmor c = true
  · exact .of_ok (payloadOf_of_armor h) h
  · exact .of_error (payloadOf_of_not_armor (by simpa only [not_forall, exists_prop] using h)) hg

theorem answers_fillOf (f : Bytes) :
    Answers (fun _ => f ≠ [] ∧ f.all isDecimal = true ∧ decimalValue f ≤ 7) E (fillOf f) := by
  by_cases hbad : f = [] ∨ f.all isDecimal = false ∨ 7 < decimalValue f
  · exact .of_error (fillOf_of_other hbad) hg
  · obtain ⟨hne, hall, hle⟩ : f ≠ [] ∧ f.all isDecimal = true ∧ decimalValue f ≤ 7 := by
      simpa only [not_or, Bool.not_eq_false, Nat.not_lt] using hbad
    exact .of_ok (fillOf_of_decimal (n := ⟨decimalValue f, Nat.lt_succ_of_le hle⟩) hne hall rfl) ⟨hne, hall, hle⟩

theorem answers_cksumOf (h l : Byte) : Answers (fun _ => hexVal h ≠ none ∧ hexVal l ≠ none) E (cksumOf h l) := by
  rcases ha : hexVal h with _ | a
  · exact .of_error (cksumOf_of_none (.inl ha)) hg
  · rcases hb : hexVal l with _ | b
    · exact .of_error (cksumOf_of_none (.inr hb)) hg
    · exact .of_ok (cksumOf_of_some ha hb) ⟨Option.some_ne_none a, Option.some_ne_none b⟩

end Steps

/-! ### Strings that pass every step are sentences of the grammar (R117) -/

/-- The seven fields of a sentence made of the groups. -/
def Groups.fields (g : Groups) : Fields := ⟨g.tag, g.total, g.part, g.seq, [g.chan], g.payload, g.fill⟩

theorem Groups.fields_body (g : Groups) : g.fields.body = g.body := by
  simp [Fields.body, Groups.fields, Fields.toList, Groups.body, List.intercalate]

/-- The bytes of a body are the separators and the bytes of its fields. -/
theorem Fields.mem_body {f : Fields} {c : Byte} : c ∈ f.body ↔ c = 0x2C#8 ∨ ∃ x ∈ f.toList, c ∈ x := by
  simp only [Fields.body, Fields.toList, List.intercalate, List.intersperse, List.flatten_cons, List.flatten_nil, List.mem_append,
    List.mem_cons, List.not_mem_nil, or_false, exists_eq_or_imp, exists_eq_left]
  grind

/-- R113, R117: PARSE drops for grammar or for a limit, unless the string is a sentence of the grammar; the checksum is tested on
such a sentence only. -/
theorem answers_parseLine (line : Bytes) :
    Answers (fun _ => ∃ g : Groups, g.ok ∧ g.line = line)
      (fun c => c = .dropGrammar ∨ c = .dropLimit ∨ (c = .dropChecksum ∧ ∃ g : Groups, g.ok ∧ g.line = line))
      (parseLine cfg line) := by
  unfold parseLine
  split
  · exact .inr (.inl rfl)
  refine (answers_frameOf (.inl rfl) line).bind fun fr ⟨hstar, hline⟩ => ?_
  refine (answers_fieldsOf (.inl rfl) fr.body).bind fun f ⟨hbody, hcomma⟩ => ?_
  refine (answers_tagOf (.inl rfl) f.f0).bind fun tag htag => ?_
  refine (answers_countOf (.inl rfl) (.inr (.inl rfl)) f.f1).bind fun total htotal => ?_
  refine (answers_countOf (.inl rfl) (.inr (.inl rfl)) f.f2).bind fun part hpart => ?_
  refine (answers_seqOf (.inl rfl) f.f3).bind fun seq hseq => ?_
  refine (answers_chanOf (.inl rfl) f.f4).bind fun chan ⟨hf4, hchan⟩ => ?_
  refine (answers_payloadOf (.inl rfl) f.f5).bind fun payload hpayload => ?_
  refine (answers_fillOf (.inl rfl) f.f6).bind fun fill hfill => ?_
  refine (answers_cksumOf (.inl rfl) fr.h fr.l).bind fun cksum hcksum => ?_
  have hgroups : ∃ g : Groups, g.ok ∧ g.line = line := by
    refine ⟨⟨f.f0, f.f1, f.f2, f.f3, chan, f.f5, f.f6, fr.h, fr.l⟩, ⟨htag, htotal, hpart, fun c hc => ?_, hchan,
      fun c hc => isArmor_iff.1 (hpayload c hc), hfill, hcksum⟩, ?_⟩
    · have hf3 : f.f3 ∈ f.toList := by simp [Fields.toList]
      have h2C : c ≠ 0x2C#8 := fun h => hcomma f.f3 hf3 (h ▸ hc)
      have h2A : c ≠ 0x2A#8 := fun h => hstar (hbody ▸ Fields.mem_body.2 (.inr ⟨f.f3, hf3, h ▸ hc⟩))
      have hprint := hseq c hc
      bv_omega
    · have hfields : Groups.fields ⟨f.f0, f.f1, f.f2, f.f3, chan, f.f5, f.f6, fr.h, fr.l⟩ = f := by
        simp only [Groups.fields, ← hf4]
      rw [Groups.line, ← Groups.fields_body, hfields, ← hbody, hline]
  split
  · exact hgroups
  · exact .inr (.inr ⟨rfl, hgroups⟩)

/-- The causes of PARSE, R115. -/
theorem cause_of_parseLine_eq_error {line : Bytes} {c : Cause} (h : parseLine cfg line = .error c) :
    c = .dropGrammar ∨ c = .dropLimit ∨ c = .dropChecksum := by
  have ha := answers_parseLine (cfg := cfg) line
  rw [h] at ha
  exact ha.imp id (Or.imp id And.left)

/-! ### A sentence of the grammar passes every step -/

theorem toNat_of_mem_decimal {f : Bytes} (hall : f.all isDecimal = true) {c : Byte} (hc : c ∈ f) :
    0x30 ≤ c.toNat ∧ c.toNat ≤ 0x39 := of_decide_eq_true (List.all_eq_true.1 hall c hc)

/-- Neither a comma nor a star stands in a group of a sentence. -/
theorem Groups.ok.mem_field {g : Groups} (hok : g.ok) : ∀ x ∈ g.fields.toList, ∀ c ∈ x, c ≠ 0x2C#8 ∧ c ≠ 0x2A#8 := by
  obtain ⟨htag, ⟨-, htotal, -⟩, ⟨-, hpart, -⟩, hseq, hchan, hpayload, ⟨-, hfill, -⟩, -⟩ := hok
  simp only [Groups.fields, Fields.toList, List.forall_mem_cons]
  have hne : ∀ c : Byte, c.toNat ≠ 0x2C ∧ c.toNat ≠ 0x2A → c ≠ 0x2C#8 ∧ c ≠ 0x2A#8 := by
    rintro c ⟨h1, h2⟩
    exact ⟨fun h => h1 (h ▸ rfl), fun h => h2 (h ▸ rfl)⟩
  refine ⟨?_, fun c hc => hne c ?_, fun c hc => hne c ?_, fun c hc => hne c ?_, ?_, fun c hc => hne c ?_, fun c hc => hne c ?_,
    List.forall_mem_nil _⟩
  · rcases htag with h | h <;> rw [h] <;> decide
  · have := toNat_of_mem_decimal htotal hc; omega
  · have := toNat_of_mem_decimal hpart hc; omega
  · have := hseq c hc; omega
  · rcases hchan with h | h <;> rw [h] <;> decide
  · have := hpayload c hc; omega
  · have := toNat_of_mem_decimal hfill hc; omega

theorem Groups.ok.frameOf_line {g : Groups} (hok : g.ok) : frameOf g.line = .ok ⟨g.body, g.h, g.l⟩ := by
  refine frameOf_framed (fun hmem => ?_) g.h g.l
  rw [← Groups.fields_body, Fields.mem_body] at hmem
  rcases hmem with hcomma | ⟨x, hx, hcx⟩
  · exact absurd hcomma (by decide)
  · exact (hok.mem_field x hx _ hcx).2 rfl

theorem Groups.ok.fieldsOf_eq {g : Groups} (hok : g.ok) : fieldsOf g.body = .ok g.fields := by
  rw [← Groups.fields_body]
  exact fieldsOf_body fun x hx hc => (hok.mem_field x hx _ hc).1 rfl

/-- The parse registers of the groups (R28), for their numbers. -/
def Groups.parsed (g : Groups) (total part : Nat) (fill : Fin 8) : Parsed where
  tag := if g.tag = aivdmBytes then 0 else 1
  total := total
  part := part
  seq := g.seq
  chan := g.chan
  payload := g.payload
  fill := fill
  cksum := BitVec.ofNat 8 g.checksum

theorem Groups.ok.tagOf_tag {g : Groups} (hok : g.ok) : tagOf g.tag = .ok (if g.tag = aivdmBytes then 0 else 1) := by
  obtain ⟨htag, -⟩ := hok
  rcases htag with h | h <;> rw [h]
  · exact tagOf_aivdm
  · exact tagOf_aivdo

theorem Groups.ok.seqOf_seq {g : Groups} (hok : g.ok) : seqOf g.seq = .ok g.seq := by
  obtain ⟨-, -, -, hseq, -⟩ := hok
  refine seqOf_of_printable fun c hc => ?_
  have hrange := hseq c hc
  omega

theorem Groups.ok.cksumOf_digits {g : Groups} (hok : g.ok) : cksumOf g.h g.l = .ok (BitVec.ofNat 8 g.checksum) := by
  obtain ⟨-, -, -, -, -, -, -, hh, hl⟩ := hok
  obtain ⟨a, ha⟩ := Option.ne_none_iff_exists'.1 hh
  obtain ⟨b, hb⟩ := Option.ne_none_iff_exists'.1 hl
  rw [cksumOf_of_some ha hb, Groups.checksum, ha, hb]
  rfl

/-- R113: on a sentence of the grammar within SENT_MAX only the limits of its two counts and its checksum are left to decide. -/
theorem parseLine_of_groups {g : Groups} {fill : Fin 8} (hok : g.ok) (hlen : g.line.length ≤ cfg.sentMax)
    (hfill : fill.val = decimalValue g.fill) :
    parseLine cfg g.line = (do
      let total ← countOf cfg g.total
      let part ← countOf cfg g.part
      if checksumOk g.body (BitVec.ofNat 8 g.checksum) then .ok (g.parsed total part fill) else .error .dropChecksum) := by
  have hframe := hok.frameOf_line
  have hfields := hok.fieldsOf_eq
  have htag := hok.tagOf_tag
  have hseq := hok.seqOf_seq
  have hcksum := hok.cksumOf_digits
  obtain ⟨-, -, -, -, hchan, hpayload, ⟨hne, hall, -⟩, -⟩ := hok
  have hchan := chanOf_of_channel hchan
  have hpayload := payloadOf_of_armor fun c hc => isArmor_iff.2 (hpayload c hc)
  have hfill := fillOf_of_decimal hne hall hfill.symm
  rw [parseLine, if_neg (Nat.not_lt.2 hlen)]
  simp only [hframe, bind, Except.bind, hfields, Groups.fields, htag, hseq, hchan, hpayload, hfill, hcksum, Groups.parsed]

/-- The sentence with both counts within PARTS_MAX (R106, R107). -/
theorem parseLine_of_groups_within {g : Groups} {fill : Fin 8} (hok : g.ok) (hlen : g.line.length ≤ cfg.sentMax)
    (hfill : fill.val = decimalValue g.fill) (htotal : decimalValue g.total ≤ cfg.partsMax)
    (hpart : decimalValue g.part ≤ cfg.partsMax) :
    parseLine cfg g.line =
      if checksumOk g.body (BitVec.ofNat 8 g.checksum) then .ok (g.parsed (decimalValue g.total) (decimalValue g.part) fill)
      else .error .dropChecksum := by
  rw [parseLine_of_groups hok hlen hfill]
  obtain ⟨-, ⟨htne, htall, htpos⟩, ⟨hpne, hpall, hppos⟩, -⟩ := hok
  simp only [countOf_of_within htne htall htpos htotal, countOf_of_within hpne hpall hppos hpart, bind, Except.bind]

/-- The sentence with a count above PARTS_MAX (R106, R107). -/
theorem parseLine_of_groups_above {g : Groups} (hok : g.ok) (hlen : g.line.length ≤ cfg.sentMax)
    (habove : cfg.partsMax < decimalValue g.total ∨ cfg.partsMax < decimalValue g.part) :
    parseLine cfg g.line = .error .dropLimit := by
  obtain ⟨-, ⟨htne, htall, htpos⟩, ⟨hpne, hpall, hppos⟩, -, -, -, ⟨-, -, hfill⟩, -⟩ := id hok
  rw [parseLine_of_groups (fill := ⟨decimalValue g.fill, Nat.lt_succ_of_le hfill⟩) hok hlen rfl]
  rcases Nat.lt_or_ge cfg.partsMax (decimalValue g.total) with htotal | htotal
  · rw [countOf_of_above htne htall htpos htotal]
    rfl
  · have hpart := habove.resolve_left (Nat.not_lt.2 htotal)
    rw [countOf_of_within htne htall htpos htotal, countOf_of_above hpne hpall hppos hpart]
    rfl

/-! ### The obligations of PARSE -/

/-- Settles O17: the sentence passes every step, and the registers written are its groups. -/
theorem parseAdmitsTheGrammar : Obligations.ParseAdmitsTheGrammar := by
  intro s g fill hok hlen htotal hpart hfill hck
  have hp := parseLine_of_groups_within hok hlen hfill htotal hpart
  rw [if_pos (checksumOk_iff.2 hck)] at hp
  exact congrArg Host.Outcome.next (parseInto_of_ok hp)

/-- Settles O18: a string that passes every step up to the checksum is a sentence of the grammar. -/
theorem parseDropsWhatIsNotTheGrammar : Obligations.ParseDropsWhatIsNotTheGrammar := by
  intro s line _ hno
  have ha := answers_parseLine (cfg := s.cfg) line
  rcases hp : parseLine s.cfg line with c | p <;> rw [hp] at ha
  · rcases ha with rfl | rfl | ⟨-, hg⟩
    · exact .inl (endsWith_parseInto hp)
    · exact .inr (endsWith_parseInto hp)
    · exact absurd hg hno
  · exact absurd ha hno

/-- Settles O19: the length is tested before anything else, and the checksum last. -/
theorem parseOrdersItsVerdicts : Obligations.ParseOrdersItsVerdicts := by
  refine fun s => ⟨fun line hlong => ?_, fun g hok hlen habove => ?_, fun g hok hlen htotal hpart hck => ?_⟩
  · exact endsWith_parseInto (if_pos hlong)
  · exact endsWith_parseInto (parseLine_of_groups_above hok hlen habove)
  · obtain ⟨-, -, -, -, -, -, ⟨-, -, hfill⟩, -⟩ := id hok
    have hp := parseLine_of_groups_within (fill := ⟨decimalValue g.fill, Nat.lt_succ_of_le hfill⟩) hok hlen rfl htotal hpart
    rw [checksumOk_eq_false_iff.2 hck] at hp
    exact endsWith_parseInto hp

end Sys2Proof.Machine
end

section
/-! SUPPORT. What a dropped sentence leaves behind (spec 40_parser_checksum.md R102, R115; 60_exceptions.md R339): the sweep of its
time, and operations that answer from the table and the parameters alone. -/

namespace Sys2Proof.Machine

variable {cfg : Config.Params}

/-! ### The DECODE of a dropped sentence -/

/-- R143, R144: what a sweep keeps, an expiry at the same time keeps too. -/
theorem sweepTable_expireTable (rt : List Entry) (t : Time) : sweepTable (expireTable rt t) t = sweepTable rt t := by
  unfold sweepTable expireTable
  rw [List.filter_filter]
  refine List.filter_congr fun e _ => ?_
  rw [← Bool.decide_and]
  exact decide_eq_decide.2 (and_iff_left_of_imp Nat.le_of_lt)

/-- R115, R302: a dropped sentence leaves its cause and the sweep of its time. -/
theorem exec_decode_of_drop {s : State} {line : Bytes} {c : Cause} (t : Time) (h : parseLine s.cfg line = .error c) :
    exec (.decode line t) s = .next ((s.withRt (sweepTable s.rt t)).withResp (Response.ofCause c)).finish := by
  have hattempt : decodeAttempt s.cfg (expireTable s.rt t) line t = (expireTable s.rt t, Response.ofCause c) := by
    simp only [decodeAttempt, h]
  show execDecode line t s = _
  simp only [execDecode, hattempt, sweepTable_expireTable]

/-! ### Runs from two states with one table (R20) -/

/-- R20: from two states with one table and the same parameters a host operation leaves two such states, with one response. -/
theorem exec_hostOp_congr {i : Instr} {u v : State} (hi : isHostOp i = true) (hrt : u.rt = v.rt) (hcfg : u.cfg = v.cfg) :
    ∃ u' v', exec i u = .next u' ∧ exec i v = .next v' ∧ u'.resp = v'.resp ∧ u'.rt = v'.rt ∧ u'.cfg = v'.cfg := by
  cases i with
  | nop | reserved101 | reserved110 | reserved111 => exact ⟨_, _, rfl, rfl, rfl, hrt, hcfg⟩
  | decode line t =>
    refine ⟨_, _, rfl, rfl, ?_, ?_, hcfg⟩ <;> simp only [State.finish_resp, State.finish_rt, State.withResp_resp,
      State.withResp_rt, State.withRt_rt, hrt, hcfg]
  | sweep t =>
    refine ⟨_, _, rfl, rfl, ?_, ?_, hcfg⟩ <;> simp only [State.finish_resp, State.finish_rt, State.withResp_resp,
      State.withResp_rt, State.withRt_rt, hrt]
  | encpos op d | encstat op d =>
    refine ⟨_, _, rfl, rfl, ?_, ?_, ?_⟩
    · simp only [encodeOperation_resp]
    · simp only [encodeOperation_rt, hrt]
    · simp only [encodeOperation_cfg, hcfg]
  | _ => exact absurd hi Bool.false_ne_true

theorem runAll_hostOps_congr {is : List Instr} {u v : State} (his : ∀ j ∈ is, isHostOp j = true) (hrt : u.rt = v.rt)
    (hcfg : u.cfg = v.cfg) : ∃ u' v', runAll is u = some u' ∧ runAll is v = some v' ∧ u'.rt = v'.rt ∧ u'.cfg = v'.cfg := by
  induction is generalizing u v with
  | nil => exact ⟨u, v, rfl, rfl, hrt, hcfg⟩
  | cons i is ih =>
    obtain ⟨hi, his⟩ := List.forall_mem_cons.1 his
    obtain ⟨u', v', hu, hv, -, hrt', hcfg'⟩ := exec_hostOp_congr hi hrt hcfg
    obtain ⟨u'', v'', hu', hv', hend⟩ := ih his hrt' hcfg'
    exact ⟨u'', v'', by simp only [runAll, hu, hu'], by simp only [runAll, hv, hv'], hend⟩

/-! ### One byte changed (R102) -/

/-- The two last bytes of a sentence are those of its frame, and its checksum is its body's. -/
theorem parseLine_eq_ok_framed {body : Bytes} {h l : Byte} {p : Parsed} (hstar : 0x2A#8 ∉ body)
    (hp : parseLine cfg ([0x21#8] ++ body ++ [0x2A#8, h, l]) = .ok p) : cksumOf h l = .ok (xorBytes body) := by
  obtain ⟨-, fr, -, hfr, -, -, -, -, -, -, -, -, hcksum, hok⟩ := parseLine_eq_ok hp
  rw [frameOf_framed hstar] at hfr
  cases hfr
  rw [checksumOk_iff_xorBytes.1 hok, hcksum]

/-- A byte of the body changed, the frame around it stays. -/
theorem set_framed {body : Bytes} {i : Nat} (first star h l b : Byte) (h1 : 1 ≤ i) (hi : i - 1 < body.length) :
    ([first] ++ body ++ [star, h, l]).set i b = [first] ++ body.set (i - 1) b ++ [star, h, l] := by
  obtain ⟨j, rfl⟩ := Nat.exists_eq_add_of_le' h1
  rw [Nat.add_sub_cancel] at hi ⊢
  simp [List.set_append_left _ _ hi]

/-- R102: an admitted sentence with one byte of its body changed is not admitted. -/
theorem parseLine_set_ne_ok {line : Bytes} {p p' : Parsed} {i : Nat} {b : Byte} (hp : parseLine cfg line = .ok p) (h1 : 1 ≤ i)
    (hi : i + 3 < line.length) (hb : line.getD i 0 ≠ b) : parseLine cfg (line.set i b) ≠ .ok p' := by
  intro hp'
  rcases frameOf_cases line with ⟨body, h, l, hstar, rfl, -⟩ | ⟨-, herr⟩
  · have hj : i - 1 < body.length := by
      simp only [List.length_append, List.length_cons, List.length_nil] at hi
      omega
    have hbyte : body[i - 1] ≠ b := by
      obtain ⟨j, rfl⟩ := Nat.exists_eq_add_of_le' h1
      simpa [List.getD, List.getElem?_append_left, show j < body.length from hj] using hb
    rw [set_framed _ _ _ _ _ h1 hj] at hp'
    rcases frameOf_cases ([0x21#8] ++ body.set (i - 1) b ++ [0x2A#8, h, l]) with ⟨body', h', l', hstar', heq, -⟩ | ⟨-, herr⟩
    · obtain ⟨rfl, hlast⟩ := List.append_inj' heq rfl |>.imp List.append_cancel_left id
      have hsum := (parseLine_eq_ok_framed hstar hp).symm.trans (parseLine_eq_ok_framed hstar' hp')
      exact xorBytes_set_ne hj hbyte (Except.ok.inj hsum).symm
    · obtain ⟨-, fr, -, hfr, -⟩ := parseLine_eq_ok hp'
      rw [herr] at hfr
      cases hfr
  · obtain ⟨-, fr, -, hfr, -⟩ := parseLine_eq_ok hp
    rw [herr] at hfr
    cases hfr

/-! ### The obligations of a dropped sentence -/

/-- Settles O15: the drop and the SWEEP leave one table, and every later operation answers from the table. -/
theorem droppedSentenceOnlyLetsTimeAct : Obligations.DroppedSentenceOnlyLetsTimeAct := by
  intro s line t c hc
  refine ⟨_, _, exec_decode_of_drop t hc, rfl, rfl, cause_of_parseLine_eq_error hc, rfl, fun before i hbefore hi => ?_⟩
  obtain ⟨u', v', hu, hv, hrt, hcfg⟩ := runAll_hostOps_congr (is := before)
    (u := ((s.withRt (sweepTable s.rt t)).withResp (Response.ofCause c)).finish)
    (v := ((s.withRt (sweepTable s.rt t)).withResp ⟨.none, .ok, .count (sweepCount s.rt t)⟩).finish) hbefore rfl rfl
  obtain ⟨u'', v'', hu', hv', hresp, hrt', -⟩ := exec_hostOp_congr hi hrt hcfg
  exact ⟨u', v', u'', v'', hu, hv, hu', hv', hresp, hrt'⟩

/-- Settles O16: the changed sentence is dropped, since its checksum is no longer its body's. -/
theorem changedBodyByteYieldsNoRecord : Obligations.ChangedBodyByteYieldsNoRecord := by
  intro s line t p i b hp h1 hi hb
  rcases hp' : parseLine s.cfg (line.set i b) with c | p'
  · exact ⟨_, c, exec_decode_of_drop t hp', rfl, cause_of_parseLine_eq_error hp', rfl, rfl, rfl⟩
  · exact absurd hp' (parseLine_set_ne_ok hp h1 hi hb)

end Sys2Proof.Machine
end

section
/-! SUPPORT. The lines of the emitter as sentences of the grammar (spec 40_parser_checksum.md R119, 46_emitter.md R280 to R287): the
decimal and hexadecimal spellings read back, the packed payload is over the alphabet, and a line is made of its groups. -/

namespace Sys2Proof.Machine

/-! ### Spellings that read back (00_scope.md section 6) -/

theorem decimalValue_append_digit (f : Bytes) (c : Byte) : decimalValue (f ++ [c]) = 10 * decimalValue f + (c.toNat - 0x30) := by
  simp [decimalValue]

/-- The byte of a digit, with its value. -/
theorem digit_byte {n : Nat} (hn : n < 10) :
    (BitVec.ofNat 8 (0x30 + n)).toNat - 0x30 = n ∧ isDecimal (BitVec.ofNat 8 (0x30 + n)) = true := by
  have hbyte : (BitVec.ofNat 8 (0x30 + n)).toNat = 0x30 + n := by rw [BitVec.toNat_ofNat]; omega
  refine ⟨by omega, decide_eq_true ?_⟩
  omega

theorem decDigits_spells {fuel n : Nat} (hn : n < fuel) :
    decDigits fuel n ≠ [] ∧ (∀ c ∈ decDigits fuel n, isDecimal c = true) ∧ decimalValue (decDigits fuel n).reverse = n := by
  induction fuel generalizing n with
  | zero => exact absurd hn (Nat.not_lt_zero n)
  | succ fuel ih =>
    unfold decDigits
    split
    · next hlt =>
      obtain ⟨hval, hdec⟩ := digit_byte hlt
      exact ⟨List.cons_ne_nil _ _, List.forall_mem_singleton.2 hdec, by simpa [decimalValue] using hval⟩
    · next hge =>
      obtain ⟨hval, hdec⟩ := digit_byte (Nat.mod_lt n (by decide : 0 < 10))
      obtain ⟨-, hall, hrest⟩ := ih (n := n / 10) (by omega)
      refine ⟨List.cons_ne_nil _ _, List.forall_mem_cons.2 ⟨hdec, hall⟩, ?_⟩
      rw [List.reverse_cons, decimalValue_append_digit, hrest, hval]
      omega

/-- `dec(n)` is a numeral that reads back as `n`. -/
theorem dec_spells (n : Nat) : dec n ≠ [] ∧ (dec n).all isDecimal = true ∧ decimalValue (dec n) = n := by
  obtain ⟨hne, hall, hval⟩ := decDigits_spells (Nat.lt_succ_self n)
  exact ⟨fun h => hne (List.reverse_eq_nil_iff.1 h), List.all_eq_true.2 fun c hc => hall c (List.mem_reverse.1 hc), hval⟩

theorem hexVal_hexDigit {v : Nat} (hv : v < 16) : hexVal (hexDigit v) = some v :=
  have h : ∀ v < 16, hexVal (hexDigit v) = some v := by decide
  h v hv

theorem hexVal_high (v : Byte) : hexVal (hexDigit (v.toNat / 16)) = some (v.toNat / 16) :=
  hexVal_hexDigit (Nat.div_lt_of_lt_mul v.isLt)

theorem hexVal_low (v : Byte) : hexVal (hexDigit (v.toNat % 16)) = some (v.toNat % 16) := hexVal_hexDigit (by omega)

/-! ### The packed payload (R176, R177, R280) -/

/-- R176: every value of six bits has a byte of the alphabet. -/
theorem armEnc6_of_lt {v : Nat} (hv : v < 64) : ∃ c, armEnc6 (Int.ofNat v) = .ok c ∧ isArmor c = true := by
  simp only [armEnc6, Int.ofNat_eq_natCast, Int.toNat_natCast]
  rw [if_neg (by omega)]
  split <;> refine ⟨_, rfl, isArmor_iff.2 ?_⟩ <;> rw [BitVec.toNat_ofNat] <;> omega

/-- R177: a packing gives one byte of the alphabet for each group of six bits. -/
theorem armPack_armor (b : Bits) : ∃ p, armPack b = .ok p ∧ (∀ c ∈ p, isArmor c = true) ∧ p.length = b.length / 6 := by
  induction b using armPack.induct with
  | case1 x1 x2 x3 x4 x5 x6 rest ih =>
    obtain ⟨p, hp, harmor, hlen⟩ := ih
    obtain ⟨c, hc, hcarmor⟩ := armEnc6_of_lt (uint_lt [x1, x2, x3, x4, x5, x6])
    refine ⟨c :: p, ?_, List.forall_mem_cons.2 ⟨hcarmor, harmor⟩, ?_⟩
    · simp only [armPack, hc, hp, bind, Except.bind]
    · simp only [List.length_cons, hlen]
      omega
  | case2 b hshort =>
    refine ⟨[], ?_, List.forall_mem_nil _, ?_⟩
    · rw [armPack]
      exact hshort
    · match b, hshort with
      | [], _ | [_], _ | [_, _], _ | [_, _, _], _ | [_, _, _, _], _ | [_, _, _, _, _], _ => simp
      | _ :: _ :: _ :: _ :: _ :: _ :: _, hshort => exact absurd rfl (hshort _ _ _ _ _ _ _)

/-- R181, R280: the payload of a non-empty BITS. -/
theorem armEncode_armor {b : Bits} (hb : b ≠ []) : ∃ p, armEncode b = .ok p ∧ (∀ c ∈ p, isArmor c = true) ∧ p ≠ [] := by
  obtain ⟨p, hp, harmor, hlen⟩ := armPack_armor (armPad6 b)
  refine ⟨p, hp, harmor, List.ne_nil_of_length_pos ?_⟩
  have hmod := armPad6_length b
  have hpos := List.length_pos_iff.2 hb
  have hge : b.length ≤ (armPad6 b).length := by rw [armPad6, List.length_append]; omega
  omega

/-! ### Chunks and lines (R281, R285, R287) -/

/-- R281: the chunks hold bytes of the payload. -/
theorem mem_of_mem_chunksFrom {fuel : Nat} {p chunk : Bytes} (hchunk : chunk ∈ chunksFrom fuel p) : ∀ c ∈ chunk, c ∈ p := by
  induction fuel generalizing p with
  | zero => exact absurd hchunk List.not_mem_nil
  | succ fuel ih =>
    unfold chunksFrom at hchunk
    split at hchunk
    · exact absurd hchunk List.not_mem_nil
    · rcases List.mem_cons.1 hchunk with rfl | hrest
      · exact fun c => List.mem_of_mem_take
      · exact fun c hc => List.mem_of_mem_drop (ih hrest c hc)

theorem chunksOf_of_ne_nil {p : Bytes} (hp : p ≠ []) : chunksOf p = chunksFrom p.length p := if_neg (by simpa using hp)

theorem emtLinesFrom_length (n : Nat) (seqId : Bytes) (ch : Byte) (k : Nat) (chunks : List Bytes) :
    (emtLinesFrom n seqId ch k chunks).length = chunks.length := by
  induction chunks generalizing k with
  | nil => rfl
  | cons c cs ih => rw [emtLinesFrom, List.length_cons, List.length_cons, ih]

/-- R287: the line of a chunk is numbered by its place. -/
theorem emtLinesFrom_getElem? (n : Nat) (seqId : Bytes) (ch : Byte) (k i : Nat) (chunks : List Bytes) :
    (emtLinesFrom n seqId ch k chunks)[i]? = chunks[i]?.map (fun c => emtLine n (k + i) seqId ch c (emtFill c.length)) := by
  induction chunks generalizing k i with
  | nil => rfl
  | cons c cs ih =>
    cases i with
    | zero => rfl
    | succ i => rw [emtLinesFrom, List.getElem?_cons_succ, List.getElem?_cons_succ, ih, Nat.add_right_comm, Nat.add_assoc]

/-- R282: the fill counts of the emitter. -/
theorem emtFill_mem (n : Nat) : emtFill n ∈ [0, 2, 4, 6] := by
  simp only [emtFill, List.mem_cons, List.not_mem_nil, or_false]
  omega

/-- R283: a sequence id is empty or a numeral. -/
theorem emtSeq_decimal (n : Nat) (d : SeqDraw) : (emtSeq n d).all isDecimal = true := by
  unfold emtSeq
  split
  · rfl
  · exact (dec_spells d.digit).2.1

/-! ### A line as a sentence (R285, R119) -/

/-- The groups of a line with the two digits of its checksum. -/
def lineGroups (n i : Nat) (seqId : Bytes) (ch : Byte) (chunk : Bytes) (f : Nat) : Groups where
  tag := aivdmBytes
  total := dec n
  part := dec i
  seq := seqId
  chan := ch
  payload := chunk
  fill := dec f
  h := hexDigit ((xorBytes (emtBody n i seqId ch chunk f)).toNat / 16)
  l := hexDigit ((xorBytes (emtBody n i seqId ch chunk f)).toNat % 16)

section Line
variable {n i : Nat} {seqId : Bytes} {ch : Byte} {chunk : Bytes} {f : Nat}

theorem lineGroups_body : (lineGroups n i seqId ch chunk f).body = emtBody n i seqId ch chunk f := rfl

theorem lineGroups_line : (lineGroups n i seqId ch chunk f).line = emtLine n i seqId ch chunk f := by
  simp only [Groups.line, lineGroups_body, emtLine, emtCksum, hex2Upper, List.append_assoc, List.singleton_append]
  simp only [lineGroups]

/-- R286: the digits spell the checksum of the body. -/
theorem lineGroups_checksum :
    BitVec.ofNat 8 (lineGroups n i seqId ch chunk f).checksum = xorBytes (lineGroups n i seqId ch chunk f).body := by
  simp only [Groups.checksum, lineGroups_body]
  simp only [lineGroups, hexVal_high, hexVal_low, Option.getD_some, Nat.div_add_mod, BitVec.ofNat_toNat, BitVec.setWidth_eq]

/-- R119: a line is a sentence of the grammar when its numbers and bytes are those that the emitter writes. -/
theorem lineGroups_ok (hn : 1 ≤ n) (hi : 1 ≤ i) (hseq : seqId.all isDecimal = true) (hch : ch = 0x41#8 ∨ ch = 0x42#8)
    (hchunk : ∀ c ∈ chunk, isArmor c = true) (hf : f ≤ 7) : (lineGroups n i seqId ch chunk f).ok := by
  obtain ⟨hne, hall, hval⟩ := dec_spells n
  obtain ⟨hine, hiall, hival⟩ := dec_spells i
  obtain ⟨hfne, hfall, hfval⟩ := dec_spells f
  refine ⟨.inl rfl, ⟨hne, hall, hval.symm ▸ hn⟩, ⟨hine, hiall, hival.symm ▸ hi⟩, fun c hc => ?_, hch,
    fun c hc => isArmor_iff.1 (hchunk c hc), ⟨hfne, hfall, hfval.symm ▸ hf⟩, ?_, ?_⟩
  · have hdigit := toNat_of_mem_decimal hseq hc
    omega
  · simp only [lineGroups, hexVal_high, ne_eq, reduceCtorEq, not_false_eq_true]
  · simp only [lineGroups, hexVal_low, ne_eq, reduceCtorEq, not_false_eq_true]

/-- R119: PARSE admits such a line and writes its numbers. -/
theorem exec_parse_emtLine {m : State} (hok : (lineGroups n i seqId ch chunk f).ok) (hf : f < 8)
    (hlen : (emtLine n i seqId ch chunk f).length ≤ m.cfg.sentMax) (hn : n ≤ m.cfg.partsMax) (hi : i ≤ m.cfg.partsMax) :
    ∃ v, exec (.parse (emtLine n i seqId ch chunk f)) m = .next v ∧ v.resp = m.resp ∧ v.rt = m.rt ∧
      v.tr.line = emtLine n i seqId ch chunk f ∧ v.tr.tag = 0 ∧ v.tr.total = n ∧ v.tr.part = i ∧ v.tr.chan = ch ∧
      v.tr.fill.val = f := by
  have hval (k : Nat) : decimalValue (dec k) = k := (dec_spells k).2.2
  rw [← lineGroups_line] at hlen ⊢
  exact ⟨_, parseAdmitsTheGrammar m _ ⟨f, hf⟩ hok hlen ((hval n).trans_le hn) ((hval i).trans_le hi) (hval f).symm
    (checksumOk_iff.1 (checksumOk_iff_xorBytes.2 lineGroups_checksum.symm)), rfl, rfl, rfl, rfl, hval n, hval i, rfl, rfl⟩

end Line

/-- R287: the lines of a non-empty BITS are those of the chunks of a payload over the alphabet. -/
theorem emtLines_of_ne_nil {b : Bits} {ch : Byte} (hb : b ≠ []) (hch : ch = 0x41#8 ∨ ch = 0x42#8) (d : SeqDraw) :
    ∃ chunks : List Bytes, (∀ chunk ∈ chunks, ∀ c ∈ chunk, isArmor c = true) ∧
      emtLines b [ch] d = .ok (emtLinesFrom chunks.length (emtSeq chunks.length d) ch 1 chunks) := by
  obtain ⟨p, hp, harmor, hne⟩ := armEncode_armor hb
  have hchan : emtChan [ch] = .ok ch := if_pos hch
  refine ⟨chunksOf p, fun chunk hchunk c hc => harmor c ?_, ?_⟩
  · rw [chunksOf_of_ne_nil hne] at hchunk
    exact mem_of_mem_chunksFrom hchunk c hc
  · simp only [emtLines, hp, hchan, bind, Except.bind]

/-- Settles O56: a line is the sentence of its groups, which PARSE admits. -/
theorem emittedLinesAreAdmitted : Obligations.EmittedLinesAreAdmitted := by
  intro s m ch d hch hbits
  obtain ⟨chunks, harmor, hlines⟩ := emtLines_of_ne_nil hbits hch d
  have hexec : exec (.emt [ch] d) s = execEmt [ch] d s := rfl
  rw [hexec, execEmt, hlines]
  refine ⟨_, _, rfl, rfl, fun i line hline hlen hparts => ?_⟩
  rw [emtLinesFrom_length] at hparts ⊢
  rw [emtLinesFrom_getElem?, Nat.add_comm 1 i] at hline
  obtain ⟨chunk, hchunk, rfl⟩ := Option.map_eq_some_iff.1 hline
  obtain ⟨hi, hget⟩ := List.getElem?_eq_some_iff.1 hchunk
  have hmem : chunk ∈ chunks := hget ▸ List.getElem_mem hi
  have hfill : emtFill chunk.length < 8 := Nat.mod_lt _ (by decide)
  have hok := lineGroups_ok (n := chunks.length) (i := i + 1) (Nat.one_le_of_lt hi) (Nat.le_add_left 1 i)
    (emtSeq_decimal chunks.length d) hch (harmor chunk hmem) (Nat.le_of_lt_succ hfill)
  obtain ⟨v, hexec, hresp, hrt, hregs, htag, htotal, hpart, hchan, hval⟩ :=
    exec_parse_emtLine hok hfill hlen hparts (Nat.le_trans hi hparts)
  exact ⟨v, hexec, hresp, hrt, hregs, htag, htotal, hpart, hchan, hval ▸ emtFill_mem chunk.length⟩

end Sys2Proof.Machine
end

section
/-! SUPPORT. The rules of the reassembler (spec 41_reassembler.md R130 to R145): one equation for each table operation and for each
micro-operation, with what it leaves unchanged. -/

namespace Sys2Proof.Machine

variable {cfg : Config.Params} {rt : List Entry} {s : State} {k : Key} {e : Entry}

/-! ### Reading a table of which some entries are kept -/

/-- R21: the canonical form has at most one entry for a key. -/
theorem tableWf_keys_ne (hw : tableWf rt = true) : rt.Pairwise (fun a b => a.key ≠ b.key) := by
  refine ((tableWf_iff rt).1 hw).1.imp fun {a b} hlt heq => ?_
  rw [heq, keyLt_irrefl] at hlt
  exact Bool.false_ne_true hlt

theorem tableGet_filter_none (keep : Entry → Bool) (h : tableGet rt k = none) : tableGet (rt.filter keep) k = none :=
  (tableGet_none_iff _ k).2 fun x hx => (tableGet_none_iff rt k).1 h x (List.mem_filter.1 hx).1

/-- R21, R143, R144: an eviction decides on the entry of each key alone. -/
theorem tableGet_filter (keep : Entry → Bool) (k : Key) (hw : tableWf rt = true) :
    tableGet (rt.filter keep) k = (tableGet rt k).filter keep := by
  have hne := tableWf_keys_ne hw
  clear hw
  induction rt with
  | nil => rfl
  | cons x rest ih =>
    obtain ⟨hx, hrest⟩ := List.pairwise_cons.1 hne
    by_cases hk : x.key = k
    · have habsent : tableGet rest k = none := (tableGet_none_iff rest k).2 fun y hy => hk ▸ (hx y hy).symm
      cases hkeep : keep x
      · rw [List.filter_cons_of_neg (by simp [hkeep]), tableGet_filter_none keep habsent]
        simp [tableGet, hk, hkeep, Option.filter_some]
      · rw [List.filter_cons_of_pos hkeep]
        simp [tableGet, hk, hkeep, Option.filter_some]
    · cases hkeep : keep x
      · rw [List.filter_cons_of_neg (by simp [hkeep]), ih hrest, tableGet, if_neg hk]
      · rw [List.filter_cons_of_pos hkeep, tableGet, tableGet, if_neg hk, if_neg hk, ih hrest]

/-- R143: a live entry is kept by RSM.EXPIRE. -/
theorem tableGet_expireTable_of_live {t : Time} (hw : tableWf rt = true) (hg : tableGet rt k = some e) (hage : age e t ≤ 30000) :
    tableGet (expireTable rt t) k = some e := by
  rw [expireTable, tableGet_filter _ k hw, hg, Option.filter_some]
  exact if_pos (decide_eq_true hage)

/-- R144: RSM.SWEEP keeps an entry of an age below EXPIRY_MS. -/
theorem tableGet_sweepTable_of_young {t : Time} (hw : tableWf rt = true) (hg : tableGet rt k = some e) (hage : age e t < 30000) :
    tableGet (sweepTable rt t) k = some e := by
  rw [sweepTable, tableGet_filter _ k hw, hg, Option.filter_some]
  exact if_pos (decide_eq_true hage)

/-- R144: RSM.SWEEP evicts an entry of age EXPIRY_MS. -/
theorem tableGet_sweepTable_of_old {t : Time} (hw : tableWf rt = true) (hg : tableGet rt k = some e) (hage : 30000 ≤ age e t) :
    tableGet (sweepTable rt t) k = none := by
  rw [sweepTable, tableGet_filter _ k hw, hg, Option.filter_some]
  exact if_neg (mt of_decide_eq_true (Nat.not_lt.2 hage))

/-! ### Writing an entry and its parts -/

/-- Of two writes under one key the last one stays. -/
theorem tablePut_tablePut {a b : Entry} (rt : List Entry) (h : a.key = b.key) : tablePut (tablePut rt a) b = tablePut rt b := by
  induction rt with
  | nil => simp [tablePut, h]
  | cons x rest ih =>
    by_cases hk : x.key = b.key
    · simp [tablePut, h, hk]
    · by_cases hlt : keyLt b.key x.key = true
      · simp [tablePut, h, hk, hlt]
      · simp only [tablePut, h, if_neg hk, if_neg hlt, ih]

theorem tableGet_tablePut_of_key {e : Entry} (rt : List Entry) (hk : e.key = k) : tableGet (tablePut rt e) k = some e :=
  hk ▸ tableGet_tablePut_same rt e

/-- R138: an index not yet received counts once more. -/
theorem putPart_length_of_absent {ps : List (Nat × Bytes)} {i : Nat} (frag : Bytes) (h : partAt ps i = none) :
    (putPart ps i frag).length = ps.length + 1 := by
  induction ps with
  | nil => rfl
  | cons q rest ih =>
    simp only [partAt] at h
    split at h
    · cases h
    · next hne =>
      rw [putPart, if_neg hne]
      split
      · rfl
      · rw [List.length_cons, ih h, List.length_cons]

/-- R137: the fill count is taken from the index equal to the entry's own total. -/
theorem storeFill_eq (e : Entry) (part : Nat) (fill : Fin 8) :
    storeFill e part fill = { e with fill := if part = e.total then fill else e.fill } := by
  unfold storeFill
  split <;> rfl

/-- R136, R137: a sentence stored is its part stored and then its fill count. -/
theorem storeFill_storePart (e : Entry) (part : Nat) (payload : Bytes) (fill : Fin 8) :
    storeFill (storePart e part payload) part fill = afterPart e part payload fill :=
  storeFill_eq _ part fill

/-! ### Completion (R139 to R141) -/

/-- R140: the loop of RSM.CHECK finds every index. -/
theorem partsComplete_iff (e : Entry) : partsComplete e = true ↔ wholeEntry e := by
  simp only [partsComplete, List.all_eq_true, List.mem_range, Option.isSome_iff_ne_none, wholeEntry]
  constructor
  · intro h i h1 hi
    obtain ⟨j, rfl⟩ := Nat.exists_eq_add_of_le' h1
    exact h j hi
  · exact fun h i hi => h (i + 1) (Nat.le_add_left 1 i) hi

/-- R141: RSM.JOIN reads no missing fragment when every index is present. -/
theorem joinParts_of_whole (h : wholeEntry e) : joinParts e = joinedEntry e := by
  rw [joinParts, joinedEntry, List.flatMap_def]
  refine congrArg List.flatten (List.map_congr_left fun i hi => ?_)
  obtain ⟨frag, hfrag⟩ := Option.ne_none_iff_exists'.1 (h (i + 1) (Nat.le_add_left 1 i) (List.mem_range.1 hi))
  simp only [fragmentAt, hfrag, Option.getD_some]

theorem rsmCheck_of_whole (h : wholeEntry e) : rsmCheck e = .joined (joinedEntry e) e.fill := by
  rw [rsmCheck, if_pos ((partsComplete_iff e).2 h), joinParts_of_whole h]

theorem rsmCheck_of_not_whole (h : ¬ wholeEntry e) : rsmCheck e = .drop .dropIncomplete :=
  if_neg (mt (partsComplete_iff e).1 h)

theorem rsmComplete_of_open (rt : List Entry) (h : e.parts.length ≠ e.total) : rsmComplete rt e = (rt, .buffered) := if_neg h

theorem rsmComplete_of_full (rt : List Entry) (h : e.parts.length = e.total) :
    rsmComplete rt e = (tableRemove rt e.key, rsmCheck e) := if_pos h

theorem tableGet_rsmComplete_other {j : Key} (hj : j ≠ e.key) : tableGet (rsmComplete rt e).1 j = tableGet rt j := by
  by_cases h : e.parts.length = e.total
  · rw [rsmComplete_of_full rt h, tableGet_tableRemove_other rt hj]
  · rw [rsmComplete_of_open rt h]

/-! ### The reassembler step on the table (R142) -/

section
variable {seq payload : Bytes} {total part : Nat} {fill : Fin 8} {t : Time}

theorem rsmStep_of_present (hg : tableGet rt (rsmKey seq) = some e) :
    rsmStep cfg rt seq total part payload fill t =
      rsmComplete (tablePut rt (afterPart e part payload fill)) (afterPart e part payload fill) := by
  simp only [rsmStep, hg, storeFill_storePart]

theorem rsmStep_of_room (hg : tableGet rt (rsmKey seq) = none) (hroom : rt.length < cfg.nEntries) :
    rsmStep cfg rt seq total part payload fill t =
      rsmComplete (tablePut rt (afterPart (newEntry (rsmKey seq) total t) part payload fill))
        (afterPart (newEntry (rsmKey seq) total t) part payload fill) := by
  simp only [rsmStep, hg, storeFill_storePart, if_neg (Nat.not_le.2 hroom)]

theorem rsmStep_of_full (hg : tableGet rt (rsmKey seq) = none) (hfull : cfg.nEntries ≤ rt.length) :
    rsmStep cfg rt seq total part payload fill t = (rt, .drop .dropCapacity) := by
  simp only [rsmStep, hg, if_pos hfull]

/-- The reassembler step leaves every key but the sentence's own alone. -/
theorem tableGet_rsmStep_other {j : Key} (hj : j ≠ rsmKey seq) :
    tableGet (rsmStep cfg rt seq total part payload fill t).1 j = tableGet rt j := by
  have hstore : ∀ e : Entry, e.key = rsmKey seq →
      tableGet (rsmComplete (tablePut rt (afterPart e part payload fill)) (afterPart e part payload fill)).1 j = tableGet rt j := by
    intro e hk
    have hj' : j ≠ (afterPart e part payload fill).key := hk ▸ hj
    rw [tableGet_rsmComplete_other hj', tableGet_tablePut_other rt _ hj']
  cases hg : tableGet rt (rsmKey seq) with
  | some e => rw [rsmStep_of_present hg, hstore e (tableGet_key hg).1]
  | none =>
    rcases Nat.lt_or_ge rt.length cfg.nEntries with hroom | hfull
    · rw [rsmStep_of_room hg hroom, hstore _ rfl]
    · rw [rsmStep_of_full hg hfull]

end

/-! ### The answer of the tail -/

/-- The response that the tail of the reassembler gives on channel `chan` (R139 to R142). -/
def RsmOut.response (chan : Byte) : RsmOut → Response
  | .buffered => ⟨.none, .buffered, .nothing⟩
  | .drop c => Response.ofCause c
  | .joined payload fill => payloadResponse payload fill chan

theorem rsmTail_resp (s : State) (o : RsmOut) : (rsmTail s o).resp = o.response s.tr.chan := by
  cases o with
  | buffered | drop c => rfl
  | joined payload fill => exact decodePayloadInto_resp _

/-! ### The micro-operations as instructions -/

theorem rsmKey_eq (seq : Bytes) : rsmKey seq = if seq = [] then ⟨false, []⟩ else ⟨true, seq⟩ := by cases seq <;> rfl

theorem exec_rsmCreate_of_room (t : Time) (hg : tableGet s.rt k = none) (hroom : s.rt.length < s.cfg.nEntries) :
    exec (.rsmCreate k t) s = .next ((s.withRt (tablePut s.rt (newEntry k s.tr.total t))).returns
      (.entry (some (newEntry k s.tr.total t)))) := by
  show execRsmCreate k t s = _
  simp only [execRsmCreate, hg, if_neg (Nat.not_le.2 hroom)]

theorem exec_rsmCreate_of_full (t : Time) (hg : tableGet s.rt k = none) (hfull : s.cfg.nEntries ≤ s.rt.length) :
    exec (.rsmCreate k t) s = .next (s.abort .dropCapacity) := by
  show execRsmCreate k t s = _
  simp only [execRsmCreate, hg, if_pos hfull]

theorem exec_rsmCreate_of_present (t : Time) (hg : tableGet s.rt k = some e) : exec (.rsmCreate k t) s = .fault .keyPresent := by
  show execRsmCreate k t s = _
  simp only [execRsmCreate, hg]

theorem exec_rsmStore (hg : tableGet s.rt k = some e) :
    exec (.rsmStore k) s = .next (s.withRt (tablePut s.rt (storePart e s.tr.part s.tr.payload))) := by
  show execRsmStore k s = _
  simp only [execRsmStore, hg]

theorem exec_rsmFill (hg : tableGet s.rt k = some e) :
    exec (.rsmFill k) s = .next (s.withRt (tablePut s.rt (storeFill e s.tr.part s.tr.fill))) := by
  show execRsmFill k s = _
  simp only [execRsmFill, hg]

theorem exec_rsmCount (hg : tableGet s.rt k = some e) :
    exec (.rsmCount k) s = .next (s.returns (.nat e.parts.length)) := by
  show execRsmCount k s = _
  simp only [execRsmCount, hg, partCount]

theorem exec_rsmComplete (hg : tableGet s.rt k = some e) :
    exec (.rsmComplete k) s = .next (rsmTail (s.withRt (rsmComplete s.rt e).1) (rsmComplete s.rt e).2) := by
  show execRsmComplete k s = _
  simp only [execRsmComplete, hg]

/-- The stop of log 14: RSM.STORE, RSM.FILL, RSM.COUNT and RSM.COMPLETE need an entry. -/
theorem exec_entryOps_of_absent (hg : tableGet s.rt k = none) :
    exec (.rsmStore k) s = .fault .noEntry ∧ exec (.rsmFill k) s = .fault .noEntry ∧ exec (.rsmCount k) s = .fault .noEntry ∧
      exec (.rsmComplete k) s = .fault .noEntry := by
  refine ⟨?_, ?_, ?_, ?_⟩
  · show execRsmStore k s = _
    simp only [execRsmStore, hg]
  · show execRsmFill k s = _
    simp only [execRsmFill, hg]
  · show execRsmCount k s = _
    simp only [execRsmCount, hg]
  · show execRsmComplete k s = _
    simp only [execRsmComplete, hg]

theorem exec_rsmBypass_of_one (t : Time) (h : s.tr.total = 1) : exec (.rsmBypass t) s = .next (decodePayloadInto s) :=
  congrArg Host.Outcome.next (if_pos h)

/-- RSM on the registers, from what its step does to the table. -/
theorem exec_rsm_of_rsmStep {t : Time} {r : List Entry × RsmOut}
    (h : rsmStep s.cfg s.rt s.tr.seq s.tr.total s.tr.part s.tr.payload s.tr.fill t = r) :
    exec (.rsm t) s = .next (rsmTail (s.withRt r.1) r.2) := by
  subst h
  rfl

/-! ### Runs of micro-operations -/

theorem runAll_cons_of_next {i : Instr} {u : State} (is : List Instr) (h : exec i s = .next u) :
    runAll (i :: is) s = runAll is u := by
  simp only [runAll, h]

/-- R142 from RSM.STORE on: the entry with the sentence stored is tested for completion. -/
theorem runAll_store_fill_complete {e' : Entry} (hg : tableGet s.rt k = some e)
    (he' : e' = afterPart e s.tr.part s.tr.payload s.tr.fill) :
    runAll [.rsmStore k, .rsmFill k, .rsmComplete k] s =
      some (rsmTail (s.withRt (rsmComplete (tablePut s.rt e') e').1) (rsmComplete (tablePut s.rt e') e').2) := by
  obtain ⟨hk, -⟩ := tableGet_key hg
  have hstored : tableGet (tablePut s.rt (storePart e s.tr.part s.tr.payload)) k =
      some (storePart e s.tr.part s.tr.payload) := tableGet_tablePut_of_key s.rt hk
  have hfilled : tablePut (tablePut s.rt (storePart e s.tr.part s.tr.payload))
      (storeFill (storePart e s.tr.part s.tr.payload) s.tr.part s.tr.fill) = tablePut s.rt e' := by
    rw [tablePut_tablePut s.rt (storeFill_key _ _ _).symm, storeFill_storePart, he']
  have hk' : e'.key = k := he' ▸ hk
  rw [runAll_cons_of_next _ (exec_rsmStore hg), runAll_cons_of_next _ (exec_rsmFill hstored), State.withRt_withRt,
    State.withRt_rt, State.withRt_tr, hfilled,
    runAll_cons_of_next _ (exec_rsmComplete (s := s.withRt (tablePut s.rt e')) (tableGet_tablePut_of_key s.rt hk'))]
  rfl

/-! ### The obligations of the reassembler's pieces -/

/-- Settles O13: neither store writes the creation time. -/
theorem ageSaturatesAndStoringKeepsIt : Obligations.AgeSaturatesAndStoringKeepsIt := by
  refine fun e t => ⟨fun h => if_pos h, fun h => if_neg (Nat.not_le.2 h), fun part payload fill => ?_⟩
  rw [storeFill_storePart]
  exact ⟨rfl, rfl⟩

/-- Settles O23: a total of 1 takes the common tail, which answers from PAYLOAD, FILL and CHAN alone. -/
theorem bypassGoesByTotal : Obligations.BypassGoesByTotal := by
  intro s t
  refine ⟨fun h => ⟨_, rfl, exec_rsmBypass_of_one t h, decodePayloadInto_rt s, fun part seq => ?_⟩, fun h => ?_⟩
  · refine ⟨_, exec_rsmBypass_of_one t h, ?_, decodePayloadInto_rt _⟩
    rw [decodePayloadInto_resp, decodePayloadInto_resp]
    rfl
  · exact ⟨_, rfl, congrArg Host.Outcome.next (if_neg h)⟩

/-- Settles O24, from what the table gives back after a write. -/
theorem keyLookupCreate : Obligations.KeyLookupCreate := by
  refine fun s => ⟨?_, fun k => rfl, fun k e => tableGet_key, fun k => (tableGet_none_iff s.rt k).1,
    fun k t hg hroom => ?_, fun k t hg hfull => ?_, fun k t e hg => exec_rsmCreate_of_present t hg⟩
  · rw [← rsmKey_eq]
    rfl
  · exact ⟨_, exec_rsmCreate_of_room t hg hroom, tableGet_tablePut_of_key s.rt rfl,
      fun j hj => tableGet_tablePut_other s.rt _ hj, tablePut_length_absent hg, rfl, rfl, rfl, rfl⟩
  · rw [exec_rsmCreate_of_full t hg hfull]
    exact endsWith_abort s _

/-- Settles O25: the entry written back under its key reads back, and every other key reads as before. -/
theorem storeFillCount : Obligations.StoreFillCount := by
  refine fun s k => ⟨fun e hg => ?_, fun hg => ?_⟩
  · obtain ⟨hk, -⟩ := tableGet_key hg
    refine ⟨⟨_, _, exec_rsmStore hg, tableGet_tablePut_of_key s.rt hk, rfl, rfl, rfl, rfl, partAt_putPart_same _ _ _,
        fun i hi => partAt_putPart_other _ _ hi, fun j hj => tableGet_tablePut_other s.rt _ (hk ▸ hj), rfl, rfl, rfl, rfl⟩,
      ⟨_, exec_rsmFill hg, ?_, fun j hj => tableGet_tablePut_other s.rt _ ?_, rfl, rfl, rfl, rfl⟩, exec_rsmCount hg,
      fun ⟨hw, _⟩ => ?_⟩
    · rw [← storeFill_eq]
      exact tableGet_tablePut_of_key s.rt (by rw [storeFill_key, hk])
    · rw [storeFill_key, hk]
      exact hj
    · exact ((partsRising_iff e.parts).1 (tableWf_parts hw hg)).imp fun h => Nat.ne_of_lt h
  · obtain ⟨hstore, hfill, hcount, -⟩ := exec_entryOps_of_absent hg
    exact ⟨hstore, hfill, hcount⟩

/-- Settles O26, along the branches of the completion test and of the check. -/
theorem completeCheckJoin : Obligations.CompleteCheckJoin := by
  intro s
  refine ⟨fun k e hg => ⟨fun hopen => ?_, fun hfull => ?_⟩, fun k hg => ?_, fun e hwhole => ?_, fun e hwhole => ?_,
    fun e hwhole => ?_⟩
  · rw [exec_rsmComplete hg, rsmComplete_of_open s.rt hopen]
    rfl
  · obtain ⟨rfl, -⟩ := tableGet_key hg
    refine ⟨_, exec_rsmComplete hg, ?_, ?_, fun j hj => ?_⟩
    · rw [rsmComplete_of_full s.rt hfull]
      rfl
    · rw [rsmTail_rt, State.withRt_rt, rsmComplete_of_full s.rt hfull, tableGet_tableRemove_same]
    · rw [rsmTail_rt, State.withRt_rt, tableGet_rsmComplete_other hj]
  · obtain ⟨-, -, -, hcomplete⟩ := exec_entryOps_of_absent hg
    exact hcomplete
  · refine ⟨_, congrArg (fun o => Host.Outcome.next (rsmTail s o)) (rsmCheck_of_whole hwhole), ?_⟩
    rw [← joinParts_of_whole hwhole]
    rfl
  · show endsWith s _ (.next (rsmTail s (rsmCheck e)))
    rw [rsmCheck_of_not_whole hwhole]
    exact endsWith_abort s _
  · refine ⟨_, rfl, ?_, rsmTail_rt s _⟩
    rw [joinParts_of_whole hwhole]
    rfl

/-- Settles O27: the micro-operations leave in the table what the step computes in one, and the tail answers from CHAN alone. -/
theorem reassemblyIsItsMicroOperations : Obligations.ReassemblyIsItsMicroOperations := by
  intro s t k _ hk
  rw [← rsmKey_eq] at hk
  subst hk
  refine ⟨fun e hg => ?_, fun hg hroom => ?_, fun hg hfull => ?_⟩
  · exact ⟨_, _, exec_rsm_of_rsmStep (rsmStep_of_present hg), runAll_store_fill_complete hg rfl, rfl, rfl, rfl, rfl⟩
  · have hnew := tableGet_tablePut_of_key (e := newEntry (rsmKey s.tr.seq) s.tr.total t) s.rt rfl
    have hput := tablePut_tablePut (a := newEntry (rsmKey s.tr.seq) s.tr.total t)
      (b := afterPart (newEntry (rsmKey s.tr.seq) s.tr.total t) s.tr.part s.tr.payload s.tr.fill) s.rt rfl
    refine ⟨_, _, exec_rsm_of_rsmStep (rsmStep_of_room hg hroom), (runAll_cons_of_next _ (exec_rsmCreate_of_room t hg hroom)).trans
      (runAll_store_fill_complete hnew rfl), ?_, ?_, ?_, ?_⟩
    · simp only [rsmTail_rt, State.withRt_rt, State.returns_rt, State.returns_tr, State.withRt_tr, hput]
    · simp only [rsmTail_resp, State.withRt_rt, State.withRt_tr, State.returns_rt, State.returns_tr, hput]
    · simp only [rsmTail_cfg, State.withRt_cfg, State.returns_cfg]
    · simp only [rsmTail_port, State.withRt_port, State.returns_port]
  · rw [exec_rsm_of_rsmStep (rsmStep_of_full hg hfull)]
    exact endsWith_abort s _

/-- Settles O28: the evictions of the two instructions are filters by age. -/
theorem expireAndSweepByAge : Obligations.ExpireAndSweepByAge := fun _ _ => ⟨rfl, rfl⟩

end Sys2Proof.Machine
end

section
/-! SUPPORT. DECODE of a sentence of several parts on the table (spec 47_host_operations.md R302; 41_reassembler.md R142 to R152):
RSM.EXPIRE, the reassembler step and RSM.SWEEP read together. -/

namespace Sys2Proof.Machine

variable {cfg : Config.Params} {rt : List Entry} {s u : State} {line : Bytes} {t : Time} {p : Parsed} {e : Entry}

/-! ### The attempt and the table it leaves -/

theorem decodeAttempt_of_parts (hp : parseLine cfg line = .ok p) (hne : p.total ≠ 1) :
    decodeAttempt cfg rt line t = ((rsmStep cfg rt p.seq p.total p.part p.payload p.fill t).1,
      (rsmStep cfg rt p.seq p.total p.part p.payload p.fill t).2.response p.chan) := by
  simp only [decodeAttempt, hp, if_neg hne]
  rcases rsmStep cfg rt p.seq p.total p.part p.payload p.fill t with ⟨rt', o⟩
  cases o <;> rfl

/-- R302 for an admitted sentence of several parts, from what the reassembler step answers. -/
theorem exec_decode_of_rsmStep {r : List Entry × RsmOut} (hp : parseLine s.cfg line = .ok p) (hne : p.total ≠ 1)
    (hr : rsmStep s.cfg (expireTable s.rt t) p.seq p.total p.part p.payload p.fill t = r) :
    exec (.decode line t) s = .next ((s.withRt (sweepTable r.1 t)).withResp (r.2.response p.chan)).finish := by
  show execDecode line t s = _
  simp only [execDecode, decodeAttempt_of_parts hp hne, hr]

/-- DECODE keeps the table within its capacity, every key a key once. -/
theorem tableInv_exec_decode (h : tableInv s.cfg s.rt) (hexec : exec (.decode line t) s = .next u) : tableInv u.cfg u.rt := by
  cases hexec
  exact tableInv_filter _ (tableInv_decodeAttempt line t (tableInv_filter _ h))

/-- Under every key but that of an admitted sentence of several parts the attempt leaves the table alone. -/
theorem tableGet_decodeAttempt_other {j : Key} (hj : ∀ p, parseLine cfg line = .ok p → p.total ≠ 1 → j ≠ rsmKey p.seq) :
    tableGet (decodeAttempt cfg rt line t).1 j = tableGet rt j := by
  rcases decodeAttempt_rt_cases cfg rt line t with h | ⟨p, hp, hne, h⟩ <;> rw [h]
  exact tableGet_rsmStep_other (hj p hp hne)

/-- Under such a key the table after a DECODE is the swept one. -/
theorem tableGet_exec_decode_other {j : Key} (hw : tableWf s.rt = true) (hexec : exec (.decode line t) s = .next u)
    (hj : ∀ p, parseLine s.cfg line = .ok p → p.total ≠ 1 → j ≠ rsmKey p.seq) :
    tableGet u.rt j = tableGet (sweepTable s.rt t) j := by
  cases hexec
  show tableGet (sweepTable (decodeAttempt s.cfg (expireTable s.rt t) line t).1 t) j = _
  have hexpired := tableWf_expireTable t hw
  calc tableGet (sweepTable (decodeAttempt s.cfg (expireTable s.rt t) line t).1 t) j
    _ = (tableGet (decodeAttempt s.cfg (expireTable s.rt t) line t).1 j).filter _ :=
      tableGet_filter _ j (tableWf_decodeAttempt s.cfg line t hexpired)
    _ = (tableGet (expireTable s.rt t) j).filter _ := by rw [tableGet_decodeAttempt_other hj]
    _ = tableGet (sweepTable (expireTable s.rt t) t) j := (tableGet_filter _ j hexpired).symm
    _ = tableGet (sweepTable s.rt t) j := by rw [sweepTable_expireTable]

/-- The sentence in hand is the only one that the frame excepts. -/
theorem tableGet_exec_decode_of_parts {j : Key} (hw : tableWf s.rt = true) (hp : parseLine s.cfg line = .ok p)
    (hexec : exec (.decode line t) s = .next u) (hj : j ≠ rsmKey p.seq) :
    tableGet u.rt j = tableGet (sweepTable s.rt t) j :=
  tableGet_exec_decode_other hw hexec fun _ hp' _ => Except.ok.inj (hp.symm.trans hp') ▸ hj

theorem rsmComplete_length (rt : List Entry) (e : Entry) : (rsmComplete rt e).1.length ≤ rt.length := by
  by_cases h : e.parts.length = e.total
  · rw [rsmComplete_of_full rt h]
    exact tableRemove_length rt e.key
  · rw [rsmComplete_of_open rt h]

/-- The number of entries grows by at most one in the reassembler step. -/
theorem rsmStep_length {seq payload : Bytes} {total part : Nat} {fill : Fin 8} (hw : tableWf rt = true) :
    (rsmStep cfg rt seq total part payload fill t).1.length ≤ rt.length + 1 := by
  cases hg : tableGet rt (rsmKey seq) with
  | some e =>
    rw [rsmStep_of_present hg]
    refine Nat.le_trans (rsmComplete_length _ _) (Nat.le_succ_of_le (Nat.le_of_eq ?_))
    obtain ⟨hk, -⟩ := tableGet_key hg
    exact tablePut_length_present hw (x := e) (hk ▸ hg)
  | none =>
    rcases Nat.lt_or_ge rt.length cfg.nEntries with hroom | hfull
    · rw [rsmStep_of_room hg hroom]
      exact Nat.le_trans (rsmComplete_length _ _) (Nat.le_of_eq (tablePut_length_absent hg))
    · rw [rsmStep_of_full hg hfull]
      exact Nat.le_succ _

theorem decodeAttempt_length (hw : tableWf rt = true) : (decodeAttempt cfg rt line t).1.length ≤ rt.length + 1 := by
  rcases decodeAttempt_rt_cases cfg rt line t with h | ⟨p, -, -, h⟩ <;> rw [h]
  · exact Nat.le_succ _
  · exact rsmStep_length hw

/-- R144: what a sweep leaves is younger than EXPIRY_MS. -/
theorem age_lt_of_mem_sweepTable (h : e ∈ sweepTable rt t) : age e t < 30000 := of_decide_eq_true (List.mem_filter.1 h).2

/-! ### A part that completes a live entry -/

/-- R139, R141, R146: the entry is removed, and the response is that of the joined message on the sentence's channel. -/
theorem exec_decode_of_completing (hw : tableWf s.rt = true) (hp : parseLine s.cfg line = .ok p) (hne : p.total ≠ 1)
    (hg : tableGet s.rt (rsmKey p.seq) = some e) (hage : age e t ≤ 30000)
    (hfull : (putPart e.parts p.part p.payload).length = e.total) (hwhole : wholeEntry (afterPart e p.part p.payload p.fill)) :
    ∃ u, exec (.decode line t) s = .next u ∧
      u.resp = payloadResponse (joinedEntry (afterPart e p.part p.payload p.fill)) (afterPart e p.part p.payload p.fill).fill p.chan ∧
      tableGet u.rt (rsmKey p.seq) = none := by
  obtain ⟨hk, -⟩ := tableGet_key hg
  have hstep := rsmStep_of_present (cfg := s.cfg) (total := p.total) (part := p.part) (payload := p.payload) (fill := p.fill)
    (t := t) (tableGet_expireTable_of_live hw hg hage)
  rw [rsmComplete_of_full _ hfull, rsmCheck_of_whole hwhole] at hstep
  refine ⟨_, exec_decode_of_rsmStep hp hne hstep, rfl, tableGet_filter_none _ ?_⟩
  rw [← hk]
  exact tableGet_tableRemove_same _ _

/-! ### The obligations of DECODE on the table -/

/-- Settles O30: the last act of either operation is the sweep, and the reassembler writes under one key. -/
theorem occupancyIsBoundedByAge : Obligations.OccupancyIsBoundedByAge := by
  intro s line t hinv
  refine ⟨⟨_, rfl, fun e => age_lt_of_mem_sweepTable, ?_, ?_, fun j => tableGet_exec_decode_other hinv.1 rfl⟩,
    ⟨_, rfl, fun e => age_lt_of_mem_sweepTable, sweepTable_length s.rt t, rfl⟩⟩
  · calc (sweepTable (decodeAttempt s.cfg (expireTable s.rt t) line t).1 t).length
      _ ≤ (decodeAttempt s.cfg (expireTable s.rt t) line t).1.length := sweepTable_length _ t
      _ ≤ (expireTable s.rt t).length + 1 := decodeAttempt_length (tableWf_expireTable t hinv.1)
      _ ≤ s.rt.length + 1 := Nat.succ_le_succ (expireTable_length s.rt t)
  · obtain ⟨-, -, hlen⟩ := tableInv_exec_decode (line := line) (t := t) hinv rfl
    exact hlen

/-- Settles O31: the completing part finds its entry live, and the joined message goes the way of RSM.JOIN. -/
theorem completingPartDeliversJoinedMessage : Obligations.CompletingPartDeliversJoinedMessage := by
  rintro s line t p e ⟨hw, -⟩ hp hne hg hage hfull hwhole
  obtain ⟨u, hexec, hresp, hgone⟩ := exec_decode_of_completing hw hp hne hg hage hfull hwhole
  refine ⟨u, _, hexec, rfl, ?_, hgone, fun j hj => tableGet_exec_decode_of_parts hw hp hexec hj, exec_cfg hexec, ?_⟩
  · rw [hresp, rsmTail_resp, joinParts_of_whole hwhole]
    rfl
  · cases hexec
    rfl

/-- Settles O32: the entry is found live, written back with the part, and swept by its own creation time. -/
theorem storedPartKeepsTotalAndCreation : Obligations.StoredPartKeepsTotalAndCreation := by
  rintro s line t p e ⟨hw, -⟩ hp hne hg hage hopen
  have hlive := tableGet_expireTable_of_live hw hg hage
  obtain ⟨hk, -⟩ := tableGet_key hg
  have hstep := rsmStep_of_present (cfg := s.cfg) (total := p.total) (part := p.part) (payload := p.payload) (fill := p.fill)
    (t := t) hlive
  rw [rsmComplete_of_open _ hopen] at hstep
  have hexec := exec_decode_of_rsmStep hp hne hstep
  have hwf : tableWf (tablePut (expireTable s.rt t) (afterPart e p.part p.payload p.fill)) = true :=
    tableWf_tablePut (tableWf_expireTable t hw) (putPart_rising _ _ (tableWf_parts hw hg))
  have hstored := tableGet_tablePut_of_key (e := afterPart e p.part p.payload p.fill) (expireTable s.rt t) hk
  exact ⟨_, hexec, rfl, fun hyoung => tableGet_sweepTable_of_young hwf hstored hyoung,
    fun hold => tableGet_sweepTable_of_old hwf hstored (Nat.le_of_eq hold.symm),
    fun j hj => tableGet_exec_decode_of_parts hw hp hexec hj, rfl, rfl⟩

/-- Settles O33: one part never completes an entry of several, and the new entry has age 0 at the sweep. -/
theorem firstPartOpensEntryOrIsDropped : Obligations.FirstPartOpensEntryOrIsDropped := by
  rintro s line t p ⟨hw, -⟩ hp hne (habsent : tableGet (expireTable s.rt t) (rsmKey p.seq) = none)
  refine ⟨fun hroom => ?_, fun hfull => ?_⟩
  · have hstep := rsmStep_of_room (total := p.total) (part := p.part) (payload := p.payload) (fill := p.fill) (t := t)
      habsent hroom
    rw [rsmComplete_of_open _ (Ne.symm hne)] at hstep
    have hexec := exec_decode_of_rsmStep hp hne hstep
    have hwf := tableWf_tablePut (e := afterPart (newEntry (rsmKey p.seq) p.total t) p.part p.payload p.fill)
      (tableWf_expireTable t hw) (putPart_rising _ _ rfl)
    have hage : age (afterPart (newEntry (rsmKey p.seq) p.total t) p.part p.payload p.fill) t < 30000 := by
      simp [age, afterPart]
    exact ⟨_, hexec, rfl, tableGet_sweepTable_of_young hwf (tableGet_tablePut_of_key _ rfl) hage,
      fun j hj => tableGet_exec_decode_of_parts hw hp hexec hj⟩
  · exact ⟨_, exec_decode_of_rsmStep hp hne (rsmStep_of_full habsent hfull), rfl, sweepTable_expireTable s.rt t⟩

end Sys2Proof.Machine
end

section
/-! SUPPORT. The parts of one message delivered in any order at one time (spec 41_reassembler.md R139 to R142): what the open entry
holds after each of them. -/

namespace Sys2Proof.Machine

variable {cfg : Config.Params} {seq : Bytes} {n : Nat} {line : Nat → Bytes} {p : Nat → Parsed} {t : Time} {seen : List Nat} {i : Nat}
  {u : State} {e : Entry}

/-- The lines are the `n` parts of one message under the sequence id `seq`, and `p` is what PARSE makes of them. -/
def PartsOf (cfg : Config.Params) (seq : Bytes) (n : Nat) (line : Nat → Bytes) (p : Nat → Parsed) : Prop :=
  ∀ i, 1 ≤ i → i ≤ n → parseLine cfg (line i) = .ok (p i) ∧ (p i).total = n ∧ (p i).part = i ∧ (p i).seq = seq

/-- The entry holds exactly the parts `seen` of a message of `n` parts that was opened at `t`. -/
structure Collected (seq : Bytes) (n : Nat) (t : Time) (p : Nat → Parsed) (seen : List Nat) (e : Entry) : Prop where
  key : e.key = rsmKey seq
  total : e.total = n
  created : e.created = t
  parts : ∀ i, partAt e.parts i = if i ∈ seen then some (p i).payload else none
  count : e.parts.length = seen.length
  fill : n ∈ seen → e.fill = (p n).fill

/-- Storing one more part of the message (R136 to R138). -/
theorem Collected.afterPart (h : Collected seq n t p seen e) (hi : i ∉ seen) :
    Collected seq n t p (seen ++ [i]) (afterPart e i (p i).payload (p i).fill) where
  key := h.key
  total := h.total
  created := h.created
  parts j := by
    show partAt (putPart e.parts i (p i).payload) j = _
    by_cases hj : j = i
    · subst hj
      rw [partAt_putPart_same, if_pos (by simp)]
    · rw [partAt_putPart_other _ _ hj, h.parts j]
      simp [hj]
  count := by
    have habsent : partAt e.parts i = none := by rw [h.parts i, if_neg hi]
    show (putPart e.parts i (p i).payload).length = _
    rw [putPart_length_of_absent _ habsent, h.count, List.length_append, List.length_singleton]
  fill hn := by
    show (if i = e.total then (p i).fill else e.fill) = _
    rw [h.total]
    split
    · next hin => rw [hin]
    · next hin => exact h.fill (by simpa [Ne.symm hin] using hn)

/-- An entry just opened at `t` has age 0. -/
theorem Collected.live (h : Collected seq n t p seen e) : age e t = 0 := by
  rw [age, h.created, if_pos (Nat.le_refl t), Nat.sub_self]

/-- The count of an entry that takes a new part. -/
theorem Collected.putPart_length (h : Collected seq n t p seen e) (hi : i ∉ seen) :
    (putPart e.parts i (p i).payload).length = seen.length + 1 := by
  have hcount := (h.afterPart hi).count
  rwa [List.length_append] at hcount

theorem Collected.whole (h : Collected seq n t p seen e) (hall : ∀ i, 1 ≤ i → i ≤ n → i ∈ seen) : wholeEntry e := by
  intro i h1 hi
  rw [h.parts i, if_pos (hall i h1 (h.total ▸ hi))]
  exact Option.some_ne_none _

/-- R141: the fragments of an entry with every part, in index order. -/
theorem Collected.joined (h : Collected seq n t p seen e) (hall : ∀ i, 1 ≤ i → i ≤ n → i ∈ seen) :
    joinedEntry e = ((List.range n).map (fun i => (p (i + 1)).payload)).flatten := by
  rw [joinedEntry, h.total]
  refine congrArg List.flatten (List.map_congr_left fun i hi => ?_)
  rw [h.parts (i + 1), if_pos (hall (i + 1) (Nat.le_add_left 1 i) (List.mem_range.1 hi)), Option.getD_some]

/-! ### The machine while the message is incomplete -/

/-- The machine with parameters `cfg` holds the parts `seen` of the message, under its key. -/
def Awaits (cfg : Config.Params) (seq : Bytes) (n : Nat) (t : Time) (p : Nat → Parsed) (seen : List Nat) (u : State) : Prop :=
  u.cfg = cfg ∧ tableInv u.cfg u.rt ∧ ∃ e, tableGet u.rt (rsmKey seq) = some e ∧ Collected seq n t p seen e

/-- The first part to arrive opens the entry (R134). -/
theorem exec_decode_first_part (hparts : PartsOf u.cfg seq n line p) (hn : 2 ≤ n) (hinv : tableInv u.cfg u.rt)
    (habsent : tableGet u.rt (rsmKey seq) = none) (hroom : u.rt.length < u.cfg.nEntries) (h1 : 1 ≤ i) (hi : i ≤ n) :
    ∃ v, exec (.decode (line i) t) u = .next v ∧ v.resp = ⟨.none, .buffered, .nothing⟩ ∧ Awaits u.cfg seq n t p [i] v := by
  obtain ⟨hp, htotal, hpart, hseq⟩ := hparts i h1 hi
  subst hseq
  have hne : (p i).total ≠ 1 := by omega
  obtain ⟨hopens, -⟩ := firstPartOpensEntryOrIsDropped u (line i) t (p i) hinv hp hne (tableGet_filter_none _ habsent)
  obtain ⟨v, hexec, hresp, hget, -⟩ := hopens (Nat.lt_of_le_of_lt (expireTable_length u.rt t) hroom)
  have hempty : Collected (p i).seq n t p [] (newEntry (rsmKey (p i).seq) n t) :=
    ⟨rfl, rfl, rfl, fun _ => rfl, rfl, fun h => absurd h List.not_mem_nil⟩
  rw [htotal, hpart] at hget
  exact ⟨v, hexec, hresp, exec_cfg hexec, tableInv_exec_decode hinv hexec, _, hget, hempty.afterPart List.not_mem_nil⟩

/-- A further part that is not the last is stored (R136, R148). -/
theorem exec_decode_further_part (hparts : PartsOf cfg seq n line p) (hn : 2 ≤ n) (hu : Awaits cfg seq n t p seen u) (h1 : 1 ≤ i)
    (hi : i ≤ n) (hnew : i ∉ seen) (hopen : seen.length + 1 < n) :
    ∃ v, exec (.decode (line i) t) u = .next v ∧ v.resp = ⟨.none, .buffered, .nothing⟩ ∧ Awaits cfg seq n t p (seen ++ [i]) v := by
  obtain ⟨rfl, hinv, e, hget, he⟩ := hu
  obtain ⟨hp, htotal, hpart, hseq⟩ := hparts i h1 hi
  subst hseq
  have hcount := he.putPart_length hnew
  have hne : (p i).total ≠ 1 := by omega
  obtain ⟨v, hexec, hresp, hkept, -⟩ := storedPartKeepsTotalAndCreation u (line i) t (p i) e hinv hp hne hget
    (by rw [he.live]; omega) (by rw [hpart, hcount, he.total]; omega)
  have hget' := hkept (by rw [he.live]; omega)
  rw [hpart] at hget'
  exact ⟨v, hexec, hresp, exec_cfg hexec, tableInv_exec_decode hinv hexec, _, hget', he.afterPart hnew⟩

/-- The last part to arrive, whichever it is, delivers the message (R139 to R141). -/
theorem exec_decode_last_part (hparts : PartsOf cfg seq n line p) (hn : 2 ≤ n) (hu : Awaits cfg seq n t p seen u) (h1 : 1 ≤ i)
    (hi : i ≤ n) (hnew : i ∉ seen) (hfull : seen.length + 1 = n) (hall : ∀ j, 1 ≤ j → j ≤ n → j ∈ seen ++ [i]) :
    ∃ v, exec (.decode (line i) t) u = .next v ∧ tableGet v.rt (rsmKey seq) = none ∧
      v.resp = payloadResponse ((List.range n).map (fun i => (p (i + 1)).payload)).flatten (p n).fill (p i).chan := by
  obtain ⟨rfl, ⟨hw, -⟩, e, hget, he⟩ := hu
  obtain ⟨hp, htotal, hpart, hseq⟩ := hparts i h1 hi
  subst hseq
  have hcount := he.putPart_length hnew
  have hstored := he.afterPart hnew
  have hne : (p i).total ≠ 1 := by omega
  obtain ⟨v, hexec, hresp, hgone⟩ := exec_decode_of_completing hw hp hne hget (by rw [he.live]; omega)
    (by rw [hpart, hcount, he.total, hfull]) (by rw [hpart]; exact hstored.whole hall)
  rw [hpart, hstored.joined hall, hstored.fill (hall n (by omega) (Nat.le_refl n))] at hresp
  exact ⟨v, hexec, hgone, hresp⟩

/-! ### Runs of parts -/

theorem responsesOf_cons_of_delivers {i : Instr} {s u : State} (is : List Instr) (h : exec i s = .next u)
    (hi : delivers i = true) : responsesOf (i :: is) s = u.resp :: responsesOf is u := by
  simp only [responsesOf, h, hi, if_true]

/-- Parts that do not complete the message are buffered one after the other. -/
theorem run_of_further_parts (hparts : PartsOf cfg seq n line p) (hn : 2 ≤ n) {rest : List Nat} (hu : Awaits cfg seq n t p seen u)
    (hrange : ∀ i ∈ rest, 1 ≤ i ∧ i ≤ n) (hnodup : (seen ++ rest).Nodup) (hopen : seen.length + rest.length < n) :
    ∃ v, runAll (rest.map fun i => Instr.decode (line i) t) u = some v ∧
      responsesOf (rest.map fun i => Instr.decode (line i) t) u = List.replicate rest.length ⟨.none, .buffered, .nothing⟩ ∧
      Awaits cfg seq n t p (seen ++ rest) v := by
  induction rest generalizing seen u with
  | nil => exact ⟨u, rfl, rfl, (List.append_nil seen).symm ▸ hu⟩
  | cons i rest ih =>
    obtain ⟨⟨h1, hi⟩, hrange⟩ := List.forall_mem_cons.1 hrange
    rw [List.length_cons] at hopen
    have hnew : i ∉ seen := fun hmem => List.disjoint_of_nodup_append hnodup hmem List.mem_cons_self
    rw [List.append_cons] at hnodup ⊢
    obtain ⟨v, hexec, hresp, hv⟩ := exec_decode_further_part hparts hn hu h1 hi hnew (by omega)
    obtain ⟨w, hrun, hresps, hw⟩ := ih hv hrange hnodup (by rw [List.length_append, List.length_singleton]; omega)
    refine ⟨w, ?_, ?_, hw⟩
    · rw [List.map_cons, runAll_cons_of_next _ hexec, hrun]
    · rw [List.map_cons, responsesOf_cons_of_delivers _ hexec rfl, hresp, hresps, List.length_cons, List.replicate_succ]

/-! ### The obligation of the order of the parts -/

theorem mem_partIndices {n j : Nat} : j ∈ (List.range n).map (· + 1) ↔ 1 ≤ j ∧ j ≤ n := by
  rw [List.mem_map]
  constructor
  · rintro ⟨k, hk, rfl⟩
    exact ⟨Nat.le_add_left 1 k, List.mem_range.1 hk⟩
  · rintro ⟨h1, hj⟩
    obtain ⟨k, rfl⟩ := Nat.exists_eq_add_of_le' h1
    exact ⟨k, List.mem_range.2 hj, rfl⟩

/-- Settles O34: the first part opens the entry, the others are collected, and the entry with every part is the message. -/
theorem partsReassembleInAnyOrder : Obligations.PartsReassembleInAnyOrder := by
  intro s n seq line p t first last hinv hn habsent hroom (hparts : PartsOf s.cfg seq n line p) hperm
  have hmem : ∀ j, j ∈ first ++ [last] ↔ 1 ≤ j ∧ j ≤ n := fun j => hperm.mem_iff.trans mem_partIndices
  have hnodup : (first ++ [last]).Nodup :=
    hperm.nodup_iff.2 (List.nodup_range.map (fun _ _ h => Nat.succ.inj h))
  have hlen : first.length + 1 = n := by simpa using hperm.length_eq
  have hrange : ∀ i ∈ first, 1 ≤ i ∧ i ≤ n := fun i hi => (hmem i).1 (List.mem_append_left _ hi)
  cases first with
  | nil => exact absurd hlen (by rw [List.length_nil]; omega)
  | cons i rest =>
    rw [List.length_cons] at hlen
    obtain ⟨⟨h1, hi⟩, hrange⟩ := List.forall_mem_cons.1 hrange
    obtain ⟨hfirst, -⟩ := List.nodup_append.1 hnodup
    obtain ⟨u, hexec, hresp, hu⟩ := exec_decode_first_part (t := t) hparts hn hinv habsent hroom h1 hi
    obtain ⟨v, hrun, hresps, hv⟩ := run_of_further_parts hparts hn hu hrange hfirst
      (by rw [List.length_singleton]; omega)
    obtain ⟨hl1, hln⟩ := (hmem last).1 (by simp)
    obtain ⟨w, hlast, hgone, hmessage⟩ := exec_decode_last_part hparts hn hv hl1 hln
      (fun h => List.disjoint_of_nodup_append hnodup h List.mem_cons_self) (by simpa [Nat.add_comm] using hlen)
      (fun j hj1 hj => (hmem j).2 ⟨hj1, hj⟩)
    refine ⟨v, w, _, ?_, ?_, hlast, hgone, rfl, ?_⟩
    · rw [List.map_cons, runAll_cons_of_next _ hexec, hrun]
    · rw [List.map_cons, responsesOf_cons_of_delivers _ hexec rfl, hresp, hresps, ← List.replicate_succ, ← hlen]
      rfl
    · rw [hmessage, decodePayloadInto_resp]
      rfl

end Sys2Proof.Machine
end

section
/-! SUPPORT. Runs with and without the sweeps of the autonomous arbiter (spec 41_reassembler.md R147; 47_host_operations.md R310):
the two tables may differ, but only in entries that every later DECODE expires before it looks. -/

namespace Sys2Proof.Machine

variable {is : List Instr} {i : Instr} {s u v : State}

/-- No DECODE of `is` can tell the two machines apart: RSM.EXPIRE at its time leaves one table in both. -/
def SameForDecodes (is : List Instr) (u v : State) : Prop :=
  u.cfg = v.cfg ∧ ∀ line t, Instr.decode line t ∈ is → expireTable u.rt t = expireTable v.rt t

theorem SameForDecodes.refl (is : List Instr) (s : State) : SameForDecodes is s s := ⟨rfl, fun _ _ _ => rfl⟩

theorem SameForDecodes.tail (h : SameForDecodes (i :: is) u v) : SameForDecodes is u v :=
  h.imp_right fun hrt line t hmem => hrt line t (List.mem_cons_of_mem i hmem)

/-- Operations that leave both tables alone keep them alike. -/
theorem SameForDecodes.frame {u' v' : State} (h : SameForDecodes is u v) (hucfg : u'.cfg = u.cfg) (hvcfg : v'.cfg = v.cfg)
    (hurt : u'.rt = u.rt) (hvrt : v'.rt = v.rt) : SameForDecodes is u' v' := by
  rw [SameForDecodes, hucfg, hvcfg, hurt, hvrt]
  exact h

/-- Two evictions may be exchanged. -/
theorem expireTable_sweepTable_comm (rt : List Entry) (t n : Time) :
    expireTable (sweepTable rt n) t = sweepTable (expireTable rt t) n := by
  simp only [expireTable, sweepTable, List.filter_filter, Bool.and_comm]

/-- An entry that has not expired at a time was younger at every time before. -/
theorem age_lt_of_lt {n t : Time} (e : Entry) (h : n < t) (hage : age e t ≤ 30000) : age e n < 30000 := by
  by_cases hn : e.created ≤ n
  · rw [age, if_pos (Nat.le_trans hn (Nat.le_of_lt h))] at hage
    rw [age, if_pos hn]
    exact Nat.lt_of_lt_of_le (Nat.sub_lt_sub_right hn h) hage
  · rw [age, if_neg hn]
    decide

/-- R147: what a sweep evicts, RSM.EXPIRE at any later time would evict too. -/
theorem expireTable_sweepTable_of_lt (rt : List Entry) {n t : Time} (h : n < t) :
    expireTable (sweepTable rt n) t = expireTable rt t := by
  simp only [expireTable, sweepTable, List.filter_filter]
  refine List.filter_congr fun e _ => ?_
  rw [← Bool.decide_and]
  exact decide_eq_decide.2 (and_iff_left_of_imp (age_lt_of_lt e h))

/-- A sweep of the arbiter on one side goes unseen by the later DECODEs. -/
theorem SameForDecodes.rsmSweep {n : Time} (h : SameForDecodes is u v) (hlater : ∀ line t, Instr.decode line t ∈ is → n < t) :
    ∃ u', exec (.rsmSweep n) u = .next u' ∧ SameForDecodes is u' v := by
  obtain ⟨hcfg, hrt⟩ := h
  refine ⟨_, rfl, hcfg, fun line t hmem => ?_⟩
  rw [← hrt line t hmem]
  exact expireTable_sweepTable_of_lt u.rt (hlater line t hmem)

/-- A host operation on both sides answers alike, SWEEP's count aside, and keeps the tables alike. -/
theorem SameForDecodes.hostOp (hi : isHostOp i = true) (h : SameForDecodes (i :: is) u v) :
    ∃ u' v', exec i u = .next u' ∧ exec i v = .next v' ∧ (delivers i = true → u'.resp = v'.resp) ∧ SameForDecodes is u' v' := by
  have htail := h.tail
  cases i with
  | nop | reserved101 | reserved110 | reserved111 =>
    exact ⟨_, _, rfl, rfl, fun _ => rfl, htail.frame rfl rfl rfl rfl⟩
  | encpos op d | encstat op d =>
    refine ⟨_, _, rfl, rfl, fun _ => ?_, htail.frame (encodeOperation_cfg _ _ _ _) (encodeOperation_cfg _ _ _ _)
      (encodeOperation_rt _ _ _ _) (encodeOperation_rt _ _ _ _)⟩
    simp only [encodeOperation_resp]
  | decode line t =>
    obtain ⟨hcfg, hrt⟩ := h
    have hattempt : decodeAttempt u.cfg (expireTable u.rt t) line t = decodeAttempt v.cfg (expireTable v.rt t) line t := by
      rw [hcfg, hrt line t List.mem_cons_self]
    refine ⟨_, _, rfl, rfl, fun _ => ?_, hcfg, fun line' t' _ => ?_⟩
    · simp only [State.finish_resp, State.withResp_resp, hattempt]
    · simp only [State.finish_rt, State.withResp_rt, State.withRt_rt, hattempt]
  | sweep n =>
    obtain ⟨hcfg, hrt⟩ := htail
    refine ⟨_, _, rfl, rfl, fun hd => absurd hd Bool.false_ne_true, hcfg, fun line t hmem => ?_⟩
    simp only [State.finish_rt, State.withResp_rt, State.withRt_rt, expireTable_sweepTable_comm, hrt line t hmem]
  | _ => exact absurd hi Bool.false_ne_true

/-! ### Responses of a run -/

theorem responsesOf_cons_of_silent (is : List Instr) (h : exec i s = .next u) (hi : delivers i = false) :
    responsesOf (i :: is) s = responsesOf is u := by
  simp only [responsesOf, h, hi, Bool.false_eq_true, if_false]

theorem isArbiter_eq_false_of_isHostOp (hi : isHostOp i = true) : isArbiter i = false := by
  cases i with
  | rsmSweep n => exact absurd hi Bool.false_ne_true
  | _ => rfl

theorem exists_rsmSweep_of_isArbiter (hi : isArbiter i = true) : ∃ n, i = .rsmSweep n := by
  cases i with
  | rsmSweep n => exact ⟨n, rfl⟩
  | _ => exact absurd hi Bool.false_ne_true

/-- R147, R310 from two machines that no later DECODE can tell apart. -/
theorem responsesOf_filter_arbiter (his : ∀ i ∈ is, isHostOp i = true ∨ isArbiter i = true)
    (hlater : is.Pairwise (fun a b => ∀ t' line t, a = .rsmSweep t' → b = .decode line t → t' < t)) (h : SameForDecodes is u v) :
    responsesOf is u = responsesOf (is.filter (fun i => !isArbiter i)) v := by
  induction is generalizing u v with
  | nil => rfl
  | cons i is ih =>
    obtain ⟨hi, hrest⟩ := List.forall_mem_cons.1 his
    obtain ⟨hsweep, hafter⟩ := List.pairwise_cons.1 hlater
    rcases hi with hhost | harb
    · obtain ⟨u', v', hu, hv, hresp, hnext⟩ := h.hostOp hhost
      rw [List.filter_cons_of_pos (by rw [isArbiter_eq_false_of_isHostOp hhost]; rfl)]
      cases hd : delivers i
      · rw [responsesOf_cons_of_silent is hu hd, responsesOf_cons_of_silent _ hv hd, ih hrest hafter hnext]
      · rw [responsesOf_cons_of_delivers is hu hd, responsesOf_cons_of_delivers _ hv hd, hresp hd, ih hrest hafter hnext]
    · obtain ⟨n, rfl⟩ := exists_rsmSweep_of_isArbiter harb
      obtain ⟨u', hu, hnext⟩ := h.tail.rsmSweep fun line t hmem => hsweep _ hmem n line t rfl rfl
      rw [List.filter_cons_of_neg (by rw [harb]; exact Bool.false_ne_true), responsesOf_cons_of_silent is hu rfl,
        ih hrest hafter hnext]

/-- Settles O29: both runs begin in one machine. -/
theorem arbiterScheduleIsInvisible : Obligations.ArbiterScheduleIsInvisible :=
  fun s is his hlater => responsesOf_filter_arbiter his hlater (.refl is s)

end Sys2Proof.Machine
end

section
/-! SUPPORT. The transcoder (spec 42_transcoder.md R170 to R181): what each piece of the armor answers on the alphabet, packing and
unpacking as each other's inverse, and unpacking as the receiving rows of the payload's characters. -/

namespace Sys2Proof.Machine

variable {b : Bits} {c : Byte} {p : Bytes} {s : State}

/-! ### One character and its value (R170, R176, R178) -/

theorem armDec6_toNat (h : isArmor c = true) :
    (armDec6 c).toNat = if 40 < c.toNat - 48 then c.toNat - 48 - 8 else c.toNat - 48 := by
  have hrange := isArmor_iff.1 h
  rw [armDec6, if_pos h, BitVec.toNat_ofNat]
  exact Nat.mod_eq_of_lt (by split <;> omega)

theorem armEnc6_of_low {v : Int} (h0 : 0 ≤ v) (h1 : v < 40) : armEnc6 v = .ok (BitVec.ofInt 8 (v + 48)) := by
  obtain ⟨n, rfl⟩ := Int.eq_ofNat_of_zero_le h0
  rw [armEnc6, if_neg (by omega), if_pos h1]
  rfl

theorem armEnc6_of_high {v : Int} (h0 : 40 ≤ v) (h1 : v ≤ 63) : armEnc6 v = .ok (BitVec.ofInt 8 (v + 56)) := by
  obtain ⟨n, rfl⟩ := Int.eq_ofNat_of_zero_le (show 0 ≤ v by omega)
  rw [armEnc6, if_neg (by omega), if_neg (by omega)]
  rfl

theorem armEnc6_of_outside {v : Int} (h : v < 0 ∨ 63 < v) : armEnc6 v = .error .encArmorRange := if_pos h

/-- The byte that ARM.ENC6 answers, with the gap between 39 and 40. -/
theorem toNat_of_armEnc6 {v : Nat} (h : armEnc6 (Int.ofNat v) = .ok c) : c.toNat = if v < 40 then v + 48 else v + 56 := by
  have hv : ¬ (Int.ofNat v < 0 ∨ 63 < Int.ofNat v) := fun hout => nomatch (armEnc6_of_outside hout).symm.trans h
  simp only [Int.ofNat_eq_natCast] at hv h
  by_cases hlow : v < 40
  · rw [armEnc6_of_low (by omega) (by omega)] at h
    cases h
    rw [if_pos hlow, BitVec.toNat_ofInt]
    omega
  · rw [armEnc6_of_high (by omega) (by omega)] at h
    cases h
    rw [if_neg hlow, BitVec.toNat_ofInt]
    omega

/-- R179: decoding takes an encoded value back. -/
theorem armDec6_of_armEnc6 {v : Nat} (hv : v < 64) (h : armEnc6 (Int.ofNat v) = .ok c) : (armDec6 c).toNat = v := by
  obtain ⟨c', hc', harmor⟩ := armEnc6_of_lt hv
  obtain rfl : c' = c := Except.ok.inj (hc'.symm.trans h)
  have hbyte := toNat_of_armEnc6 h
  rw [armDec6_toNat harmor]
  split <;> split at hbyte <;> omega

/-- A byte of the alphabet is the one that R176 gives its value. -/
theorem toNat_of_isArmor (h : isArmor c = true) :
    c.toNat = if (armDec6 c).toNat < 40 then (armDec6 c).toNat + 48 else (armDec6 c).toNat + 56 := by
  have hrange := isArmor_iff.1 h
  rw [armDec6_toNat h]
  by_cases hlow : 40 < c.toNat - 48
  · rw [if_pos hlow, if_neg (by omega)]
    omega
  · rw [if_neg hlow, if_pos (by omega)]
    omega

/-- R179: encoding takes a decoded character back. -/
theorem armEnc6_armDec6 (h : isArmor c = true) : armEnc6 (Int.ofNat (armDec6 c).toNat) = .ok c := by
  obtain ⟨c', hc', -⟩ := armEnc6_of_lt (armDec6 c).isLt
  have hbyte : c'.toNat = c.toNat := (toNat_of_armEnc6 hc').trans (toNat_of_isArmor h).symm
  rw [hc', BitVec.eq_of_toNat_eq hbyte]

/-! ### Packing, group by group (R177) -/

/-- A packing of whole groups begins with the character of the first one. -/
theorem armPack_eq_ok_of_group {x1 x2 x3 x4 x5 x6 : Bool} {rest : Bits}
    (h : armPack (x1 :: x2 :: x3 :: x4 :: x5 :: x6 :: rest) = .ok p) :
    ∃ c q, armEnc6 (Int.ofNat (uint [x1, x2, x3, x4, x5, x6])) = .ok c ∧ armPack rest = .ok q ∧ p = c :: q := by
  obtain ⟨c, hc, -⟩ := armEnc6_of_lt (uint_lt [x1, x2, x3, x4, x5, x6])
  obtain ⟨q, hq, -⟩ := armPack_armor rest
  simp only [armPack, hc, hq, bind, Except.bind, Except.ok.injEq] at h
  exact ⟨c, q, hc, hq, h.symm⟩

/-- Bits that hold no whole group pack to the empty string. -/
theorem armPack_of_no_group (h : ∀ x1 x2 x3 x4 x5 x6 rest, b = x1 :: x2 :: x3 :: x4 :: x5 :: x6 :: rest → False) :
    armPack b = .ok [] := by
  rw [armPack]
  exact h

theorem armPack_length (h : armPack b = .ok p) : p.length = b.length / 6 := by
  obtain ⟨q, hq, -, hlen⟩ := armPack_armor b
  obtain rfl : q = p := Except.ok.inj (hq.symm.trans h)
  exact hlen

/-- R179: unpacking takes a packing of whole groups back. -/
theorem armUnpack_of_armPack (hb : b.length % 6 = 0) (h : armPack b = .ok p) : armUnpack p = b := by
  induction b using armPack.induct generalizing p with
  | case1 x1 x2 x3 x4 x5 x6 rest ih =>
    obtain ⟨c, q, hc, hq, rfl⟩ := armPack_eq_ok_of_group h
    have hgroup : bitsW 6 (uint [x1, x2, x3, x4, x5, x6]) = [x1, x2, x3, x4, x5, x6] :=
      bitsW_uint [x1, x2, x3, x4, x5, x6]
    have hrest : rest.length % 6 = 0 := (Nat.add_mod_right rest.length 6).symm.trans hb
    rw [armUnpack_cons, armDec6_of_armEnc6 (uint_lt _) hc, hgroup, ih hrest hq]
    rfl
  | case2 b hshort =>
    obtain rfl : [] = p := Except.ok.inj ((armPack_of_no_group hshort).symm.trans h)
    have hlen := armPack_length h
    exact (List.eq_nil_of_length_eq_zero (by rw [List.length_nil] at hlen; omega)).symm

/-- R177: character `i` is that of the six bits from `6 * i` on. -/
theorem armEnc6_of_armPack_getElem? {i : Nat} (h : armPack b = .ok p) (hi : p[i]? = some c) :
    armEnc6 (Int.ofNat (uint ((b.drop (6 * i)).take 6))) = .ok c := by
  induction b using armPack.induct generalizing p i with
  | case1 x1 x2 x3 x4 x5 x6 rest ih =>
    obtain ⟨first, q, hfirst, hq, rfl⟩ := armPack_eq_ok_of_group h
    cases i with
    | zero =>
      obtain rfl : first = c := Option.some.inj hi
      exact hfirst
    | succ i => exact ih hq hi
  | case2 b hshort =>
    obtain rfl : [] = p := Except.ok.inj ((armPack_of_no_group hshort).symm.trans h)
    cases hi

/-! ### Unpacking, bit by bit (R172, R51) -/

theorem bitsW_getElem? {w j : Nat} (v : Nat) (h : j < w) : (bitsW w v)[j]? = some (v.testBit (w - 1 - j)) := by
  induction w generalizing j with
  | zero => exact absurd h (Nat.not_lt_zero j)
  | succ w ih =>
    cases j with
    | zero => rfl
    | succ j =>
      rw [bitsW, List.getElem?_cons_succ, ih (Nat.lt_of_succ_lt_succ h)]
      congr 2
      omega

theorem armUnpack_getElem? {i j : Nat} (hj : j < 6) (hc : p[i]? = some c) :
    (armUnpack p)[6 * i + j]? = some ((armDec6 c).toNat.testBit (5 - j)) := by
  induction p generalizing i with
  | nil => cases hc
  | cons x p ih =>
    rw [armUnpack_cons]
    cases i with
    | zero =>
      obtain rfl : x = c := Option.some.inj hc
      rw [List.getElem?_append_left (by rw [bitsW_length]; omega), Nat.mul_zero, Nat.zero_add, bitsW_getElem? _ hj]
    | succ i =>
      have hplace : 6 * (i + 1) + j - (bitsW 6 (armDec6 x).toNat).length = 6 * i + j := by rw [bitsW_length]; omega
      rw [List.getElem?_append_right (by rw [bitsW_length]; omega), hplace, ih hc]

/-! ### Stripping (R173, R174) -/

theorem fillStrips_of_zero_or_six {fill : Fin 8} (h : fill = 0 ∨ fill = 6) : fillStrips fill = 0 := by
  obtain rfl | rfl := h <;> rfl

theorem fillStrips_of_ne_six {fill : Fin 8} (h : fill ≠ 6) : fillStrips fill = fill.val :=
  if_neg fun hval => h (Fin.ext hval)

theorem armStrip_of_zero_or_six {fill : Fin 8} (b : Bits) (h : fill = 0 ∨ fill = 6) : armStrip b fill = b :=
  if_pos (fillStrips_of_zero_or_six h)

/-- Any other fill count takes that many bits from the end. -/
theorem armStrip_of_ne {fill : Fin 8} (b : Bits) (h0 : fill ≠ 0) (h6 : fill ≠ 6) :
    armStrip b fill = if b.length ≤ fill.val then [] else b.take (b.length - fill.val) := by
  have hpos : fill.val ≠ 0 := fun hval => h0 (Fin.ext hval)
  simp only [armStrip, fillStrips_of_ne_six h6, if_neg hpos]

/-! ### The receiving rows of a payload (R172, R79; log 15) -/

theorem armorRow_armorInstrs {r : Byte × Nat × (Dir → Instr)} (hr : r ∈ armorInstrs) : armorRow r.1 = some r.2.2 :=
  have h : armorInstrs.map (fun r => armorRow r.1) = armorInstrs.map (fun r => some r.2.2) := rfl
  List.map_inj_left.1 h r hr

/-- The rows of the alphabet have no operand that a check could refuse. -/
theorem wfError_armorInstrs (cfg : Config.Params) {r : Byte × Nat × (Dir → Instr)} (hr : r ∈ armorInstrs) (d : Dir) :
    wfError cfg (r.2.2 d) = none :=
  have h : armorInstrs.map (fun r => wfError cfg (r.2.2 d)) = armorInstrs.map (fun _ => none) := rfl
  List.map_inj_left.1 h r hr

/-- R79: every byte of the alphabet has a row, at its value. -/
theorem exists_mem_armorInstrs (h : isArmor c = true) : ∃ f, (c, (armDec6 c).toNat, f) ∈ armorInstrs := by
  have hrows : ∀ v < 64, ∃ r ∈ armorInstrs, r.2.1 = v := by decide
  obtain ⟨⟨c', v, f⟩, hr, hv⟩ := hrows _ (armDec6 c).isLt
  obtain ⟨hbyte, -⟩ := armorInstrs_byte hr
  simp only at hv hbyte
  subst hv
  obtain rfl : c' = c := BitVec.eq_of_toNat_eq (hbyte.trans (toNat_of_isArmor h).symm)
  exact ⟨f, hr⟩

/-- A receiving row of the alphabet decodes, and appends the six bits that ARM.UNPACK has for its character. -/
theorem exists_receivingRow (cfg : Config.Params) (h : isArmor c = true) :
    ∃ i, decode cfg ⟨.armor c, [.dir .rx]⟩ = .ok i ∧
      ∀ s, exec i s = .next (s.withBits (s.tr.bits ++ bitsW 6 (armDec6 c).toNat)) := by
  obtain ⟨f, hr⟩ := exists_mem_armorInstrs h
  refine ⟨f .rx, decode_eq_ok_iff.2 ⟨?_, wfError_armorInstrs cfg hr .rx⟩, fun s => ?_⟩
  · exact decodeRaw_armor_of_row (armorRow_armorInstrs hr) .rx
  · exact exec_armorInstrs hr .rx s

/-- The receiving rows of a payload, from any BITS. -/
theorem exists_receivingRows (cfg : Config.Params) (h : ∀ c ∈ p, isArmor c = true) :
    ∃ is, List.Forall₂ (fun c i => decode cfg ⟨.armor c, [.dir .rx]⟩ = .ok i) p is ∧
      ∀ s, runAll is s = some (s.withBits (s.tr.bits ++ armUnpack p)) := by
  induction p with
  | nil => exact ⟨[], .nil, fun s => by rw [armUnpack_nil, List.append_nil]; rfl⟩
  | cons c p ih =>
    obtain ⟨harmor, hrest⟩ := List.forall_mem_cons.1 h
    obtain ⟨i, hdecode, hexec⟩ := exists_receivingRow cfg harmor
    obtain ⟨is, hdecodes, hrun⟩ := ih hrest
    refine ⟨i :: is, .cons hdecode hdecodes, fun s => ?_⟩
    rw [runAll_cons_of_next is (hexec s), hrun, armUnpack_cons, ← List.append_assoc]
    rfl

/-! ### The operations as instructions -/

theorem exec_armPack_of_whole (h : s.tr.bits.length % 6 = 0) :
    exec .armPack s = .next (s.writeOrAbort (armPack s.tr.bits) Transients.withString) :=
  congrArg Host.Outcome.next (if_pos h)

/-- R181, R280: padding leaves whole groups, which are then packed. -/
theorem runAll_armPad6_armPack (s : State) : runAll [.armPad6, .armPack] s =
    some ((s.withBits (armPad6 s.tr.bits)).writeOrAbort (armEncode s.tr.bits) Transients.withString) := by
  have hpad : exec .armPad6 s = .next (s.withBits (armPad6 s.tr.bits)) := rfl
  rw [runAll_cons_of_next _ hpad, runAll_cons_of_next _ (exec_armPack_of_whole (armPad6_length s.tr.bits))]
  rfl

/-! ### The obligations of the transcoder -/

/-- Settles O35: the laws of one character, and packing undone group by group. -/
theorem armorInverseLaws : Obligations.ArmorInverseLaws := by
  refine ⟨fun v hv => ?_, fun c => armEnc6_armDec6, fun b hb => ?_, fun b => ?_⟩
  · obtain ⟨c, hc, -⟩ := armEnc6_of_lt hv
    exact ⟨c, hc, armDec6_of_armEnc6 hv hc⟩
  · obtain ⟨p, hp, -⟩ := armPack_armor b
    exact ⟨p, hp, armUnpack_of_armPack hb hp⟩
  · obtain ⟨p, hp, -⟩ := armPack_armor (armPad6 b)
    exact ⟨p, hp, armUnpack_of_armPack (armPad6_length b) hp⟩

/-- Settles O36: every bit of BITS from its character, and the strip by cases of FILL. -/
theorem armorDecodeOperations : Obligations.ArmorDecodeOperations := by
  intro s
  have hstrip : exec .armStrip s = .next (s.withTr { s.tr with bits := armStrip s.tr.bits s.tr.fill }) := rfl
  refine ⟨fun c hc => ?_, ⟨_, rfl, armUnpack_length _, fun i j c hj hi hc => ?_⟩, fun hfill => ?_, fun h0 h6 hlen => ?_,
    fun h0 h6 hlen => ?_, _, rfl, rfl⟩
  · rw [← armDec6_toNat hc]
    rfl
  · rw [armUnpack_getElem? hj hi, armDec6_toNat hc]
  · rw [hstrip, armStrip_of_zero_or_six _ hfill]
    rfl
  · rw [hstrip, armStrip_of_ne _ h0 h6, if_pos hlen]
  · rw [hstrip, armStrip_of_ne _ h0 h6, if_neg (Nat.not_le.2 hlen)]

/-- Settles O37: ARM.ENC6 by the range of its value, ARM.PACK by its groups, and padding leaves whole groups to pack. -/
theorem armorEncodeOperations : Obligations.ArmorEncodeOperations := by
  intro s
  refine ⟨rfl, fun v h0 h1 => next_writeOrAbort (armEnc6_of_low h0 h1) _, fun v h0 h1 => next_writeOrAbort (armEnc6_of_high h0 h1) _,
    fun v hv => endsWith_writeOrAbort (armEnc6_of_outside hv) _, fun hmod => ?_, _, runAll_armPad6_armPack s, rfl, rfl⟩
  obtain ⟨p, hp, -, hlen⟩ := armPack_armor s.tr.bits
  refine ⟨p, (exec_armPack_of_whole hmod).trans (next_writeOrAbort hp _), by omega, fun i c hc => ?_⟩
  exact toNat_of_armEnc6 (armEnc6_of_armPack_getElem? hp hc)

/-- Settles O39: the rows appended to an empty BITS leave what ARM.UNPACK writes. -/
theorem unpackIsTheRowsInTurn : Obligations.UnpackIsTheRowsInTurn := by
  intro s p hp
  obtain ⟨is, hdecodes, hrun⟩ := exists_receivingRows s.cfg hp
  exact ⟨is, _, _, hdecodes, hrun _, rfl, rfl⟩

end Sys2Proof.Machine
end

section
/-! SUPPORT. The Field Codec primitives (spec 43_field_primitives.md R190 to R200): what a read finds in BITS, the number or the
text that a write spells, trimming, and the dispatch by type. -/

namespace Sys2Proof.Machine

variable {b : Bits} {o w : Nat} {v : Int}

/-! ### Reads inside BITS (R190, R191) -/

theorem sint_readBits_range (b : Bits) (o : Nat) (hw : 1 ≤ w) :
    -(2 ^ (w - 1)) ≤ sint (readBits b o w) ∧ sint (readBits b o w) < 2 ^ (w - 1) := by
  have hlen := readBits_length b o w
  have hne : readBits b o w ≠ [] := List.length_pos_iff.1 (by omega)
  obtain ⟨hlow, hhigh⟩ := sint_range hne
  rw [hlen] at hlow hhigh
  exact ⟨hlow, Int.lt_of_le_sub_one hhigh⟩

/-- A read finds what BITS holds from its offset on. -/
theorem readBits_of_prefix {a : Bits} (h : a <+: b.drop o) (ho : o ≤ b.length) : readBits b o a.length = a := by
  have hlen := h.length_le
  rw [List.length_drop] at hlen
  rw [readBits_inside (by omega), ← List.prefix_iff_eq_take.1 h]

/-! ### The numbers that a write spells (R194, R195) -/

/-- R55: the two readings of a bit string differ by nothing or by `2 ^ w`. -/
theorem dvd_uint_sub_sint (b : Bits) : (2 : Int) ^ b.length ∣ uint b - sint b := by
  cases b with
  | nil => simp [sint, uint]
  | cons x xs =>
    refine ⟨x.toNat, ?_⟩
    rw [sint_cons, uint, List.length_cons]
    push_cast
    ring

/-- R55: a number of the signed range is the signed reading of any `w` bits that spell it modulo `2 ^ w`. -/
theorem sint_eq_of_uint (hb : b ≠ []) (hlow : -(2 ^ (b.length - 1)) ≤ v) (hhigh : v < 2 ^ (b.length - 1))
    (hu : (uint b : Int) = v % 2 ^ b.length) : sint b = v := by
  obtain ⟨hslow, hshigh⟩ := sint_range hb
  have hpos : b.length - 1 + 1 = b.length := Nat.sub_add_cancel (List.length_pos_iff.2 hb)
  have hpow : (2 : Int) ^ b.length = 2 * 2 ^ (b.length - 1) := by rw [← pow_succ', hpos]
  have hdvd : (2 : Int) ^ b.length ∣ v - sint b := by
    have hmod : (2 : Int) ^ b.length ∣ v - uint b := hu ▸ Int.dvd_self_sub_emod
    simpa using Int.dvd_add hmod (dvd_uint_sub_sint b)
  have habs : |v - sint b| < 2 ^ b.length := abs_lt.2 ⟨by omega, by omega⟩
  have := Int.eq_zero_of_abs_lt_dvd hdvd habs
  omega

theorem uint_bitsW_toNat (h0 : 0 ≤ v) (h1 : v < 2 ^ w) : (uint (bitsW w v.toNat) : Int) = v := by
  have hv : (v.toNat : Int) = v := Int.toNat_of_nonneg h0
  have hlt : v.toNat < 2 ^ w := by
    rw [← hv] at h1
    exact_mod_cast h1
  rw [uint_bitsW hlt, hv]

/-- Everything `FLD.PUTU` can append: bits whose unsigned reading is the number. -/
theorem uint_of_putU {a : Bits} (h : putU v w = .ok a) : (uint a : Int) = v := by
  unfold putU at h
  split at h
  · cases h
  · next hrange =>
    cases h
    exact uint_bitsW_toNat (by omega) (by omega)

/-- Everything `FLD.PUTS` can append: bits whose signed reading is the number. -/
theorem sint_of_putS {a : Bits} (hw : w ≠ 0) (h : putS v w = .ok a) : sint a = v := by
  have hlen := putS_length h
  unfold putS at h
  split at h
  · cases h
  · next hrange =>
    cases h
    refine sint_eq_of_uint (List.length_pos_iff.1 (by omega)) ?_ ?_ ?_ <;> rw [hlen]
    · omega
    · omega
    · exact uint_bitsW_toNat (Int.emod_nonneg v (pow_ne_zero w two_ne_zero)) (Int.emod_lt_of_pos v (pow_pos two_pos w))

/-! ### Trimming (R193) -/

/-- What is taken from the front is a run of the character, and another one, if any, stands behind it. -/
theorem dropWhile_eq (c : Byte) (str : Bytes) :
    (∃ i, str = List.replicate i c ++ str.dropWhile (· == c)) ∧ (str.dropWhile (· == c)).head? ≠ some c := by
  constructor
  · have hrun : str.takeWhile (· == c) = List.replicate (str.takeWhile (· == c)).length c :=
      List.eq_replicate_iff.2 ⟨rfl, fun x hx => by simpa using List.mem_takeWhile_imp hx⟩
    exact ⟨_, by rw [← hrun]; exact List.takeWhile_append_dropWhile.symm⟩
  · intro hhead
    have hnot := List.head?_dropWhile_not (· == c) str
    rw [hhead] at hnot
    simp at hnot

/-- Likewise from the end. -/
theorem stripEnd_eq (c : Byte) (str : Bytes) :
    (∃ k, str = stripEnd c str ++ List.replicate k c) ∧ (stripEnd c str).getLast? ≠ some c := by
  obtain ⟨⟨k, hk⟩, hhead⟩ := dropWhile_eq c str.reverse
  refine ⟨⟨k, ?_⟩, by rwa [stripEnd, List.getLast?_reverse]⟩
  rw [← List.reverse_inj, List.reverse_append, stripEnd, List.reverse_reverse, List.reverse_replicate]
  exact hk

theorem stripEnd_append_replicate (c : Byte) (str : Bytes) (k : Nat) :
    stripEnd c (str ++ List.replicate k c) = stripEnd c str := by
  rw [stripEnd, List.reverse_append, List.reverse_replicate, List.dropWhile_append_of_pos (by simp), ← stripEnd]

/-- Dropping from the front leaves the end as it was, or nothing. -/
theorem getLast?_dropWhile_ne {c : Byte} {str : Bytes} (p : Byte → Bool) (h : str.getLast? ≠ some c) :
    (str.dropWhile p).getLast? ≠ some c := by
  intro hlast
  obtain ⟨ys, hys⟩ := List.getLast?_eq_some_iff.1 hlast
  refine h (List.getLast?_eq_some_iff.2 ⟨str.takeWhile p ++ ys, ?_⟩)
  rw [List.append_assoc, ← hys, List.takeWhile_append_dropWhile]

theorem trimText_append_padding (str : Bytes) (k : Nat) : trimText (str ++ List.replicate k 0x40#8) = trimText str := by
  rw [trimText, stripEnd_append_replicate, ← trimText]

/-- A text with nothing to trim stays. -/
theorem trimText_of_trimmed {str : Bytes} (hhead : str.head? ≠ some 0x20#8) (hspace : str.getLast? ≠ some 0x20#8)
    (hat : str.getLast? ≠ some 0x40#8) : trimText str = str := by
  have hstrip {c : Byte} (h : str.getLast? ≠ some c) : stripEnd c str = str :=
    List.rdropWhile_eq_self_iff.2 fun hne heq => h (by rw [List.getLast?_eq_some_getLast hne, beq_iff_eq.1 heq])
  rw [trimText, hstrip hat, hstrip hspace]
  cases str with
  | nil => rfl
  | cons x xs => exact List.dropWhile_cons_of_neg (by simpa using hhead)

/-! ### Texts, group by group (R192, R196) -/

theorem toNat_textChar {n : Nat} (h : n < 64) : (textChar n).toNat = if n < 32 then n + 64 else n := by
  unfold textChar
  split <;> rw [BitVec.toNat_ofNat] <;> omega

theorem textValue_lt (c : Byte) : textValue c < 64 := by
  unfold textValue
  split
  · omega
  · split <;> omega

/-- R196, R266: a group gives back the character it was written for; an unknown one comes back as `'@'`. -/
theorem textChar_textValue (c : Byte) :
    textChar (textValue c) = if 0x20 ≤ c.toNat ∧ c.toNat ≤ 0x5F then c else 0x40#8 := by
  refine BitVec.eq_of_toNat_eq ?_
  have hat : (0x40#8).toNat = 64 := rfl
  rw [toNat_textChar (textValue_lt c), apply_ite BitVec.toNat]
  unfold textValue
  split_ifs <;> omega

/-- R192: the characters of the groups, by the table of R80. -/
theorem rawText_getElem? {n i : Nat} (b : Bits) (o : Nat) (h : i < n) :
    (rawText b o n)[i]? = some (textChar (getU b (o + 6 * i) 6)) := by
  induction n generalizing o i with
  | zero => exact absurd h (Nat.not_lt_zero i)
  | succ n ih =>
    cases i with
    | zero => rfl
    | succ i =>
      have hplace : o + 6 * (i + 1) = o + 6 + 6 * i := by omega
      rw [rawText, List.getElem?_cons_succ, ih (o + 6) (Nat.lt_of_succ_lt_succ h), hplace]

/-- R192, R193: FLD.GETT reads the text that its slice spells. -/
theorem spellsText_getT {n : Nat} (h : o + 6 * n ≤ b.length) : spellsText b o n (getT b o n) := by
  refine ⟨rawText b o n, rawText_length b o n, fun i c hc => ?_, rfl⟩
  have hi : i < n := rawText_length b o n ▸ (List.getElem?_eq_some_iff.1 hc).1
  rw [rawText_getElem? b o hi] at hc
  obtain rfl := Option.some.inj hc
  rw [toNat_textChar (getU_lt b _ 6), getU, readBits_inside (by omega)]

/-- R196: one turn of the loop of FLD.PUTT, whether a character is left or not. -/
theorem putT_succ (text : Bytes) (n : Nat) :
    putT text (n + 1) = bitsW 6 (textValue (text.headD 0x40#8)) ++ putT text.tail n := by
  cases text <;> rfl

/-- R196: group `i` of what FLD.PUTT appends. -/
theorem uint_putT_group {n i : Nat} (text : Bytes) (h : i < n) :
    uint (((putT text n).drop (6 * i)).take 6) = textValue (text.getD i 0x40#8) := by
  induction i generalizing n text with
  | zero =>
    obtain ⟨n, rfl⟩ := Nat.exists_eq_succ_of_ne_zero h.ne'
    have htake := List.take_left (l₁ := bitsW 6 (textValue (text.headD 0x40#8))) (l₂ := putT text.tail n)
    rw [bitsW_length] at htake
    rw [Nat.mul_zero, List.drop_zero, putT_succ, htake, uint_bitsW (textValue_lt _)]
    cases text <;> rfl
  | succ i ih =>
    obtain ⟨n, rfl⟩ := Nat.exists_eq_succ_of_ne_zero (Nat.ne_zero_of_lt h)
    have hdrop := List.drop_left (l₁ := bitsW 6 (textValue (text.headD 0x40#8))) (l₂ := putT text.tail n)
    rw [bitsW_length] at hdrop
    have hplace : 6 * (i + 1) = 6 + 6 * i := by omega
    rw [putT_succ, hplace, ← List.drop_drop, hdrop, ih text.tail (Nat.lt_of_succ_lt_succ h)]
    cases text <;> rfl

/-- R200: the groups that FLD.PUTT wrote read as its text, by the table of R80 and padded with `'@'`. -/
theorem rawText_of_putT {text : Bytes} {n : Nat} (h : putT text n <+: b.drop o) (ho : o ≤ b.length) :
    rawText b o n = (text.map (fun c => textChar (textValue c))).take n ++ List.replicate (n - text.length) 0x40#8 := by
  induction n generalizing text o with
  | zero => simp [rawText]
  | succ n ih =>
    rw [putT_succ] at h
    have hgroup : getU b o 6 = textValue (text.headD 0x40#8) := by
      have hread := readBits_of_prefix ((List.prefix_append _ _).trans h) ho
      rw [bitsW_length] at hread
      rw [getU, hread, uint_bitsW (textValue_lt _)]
    have hlen := h.length_le
    rw [List.length_append, bitsW_length, List.length_drop] at hlen
    have hrest : putT text.tail n <+: b.drop (o + 6) := by
      have hdrop := h.drop 6
      rwa [List.drop_left' (bitsW_length 6 _), List.drop_drop] at hdrop
    rw [rawText, hgroup, ih hrest (by omega)]
    cases text with
    | nil =>
      have hat : textChar (textValue 0x40#8) = 0x40#8 := rfl
      simp [hat, List.replicate_succ]
    | cons c cs => simp

/-- R200, R266: FLD.GETT reads back what FLD.PUTT wrote. -/
theorem getT_of_putT {text : Bytes} {n : Nat} (h : putT text n <+: b.drop o) (ho : o ≤ b.length) :
    getT b o n = textBack text n := by
  rw [getT, rawText_of_putT h ho, trimText_append_padding, textBack]
  simp only [textChar_textValue]

/-- R200: a text of the table that fits and has nothing to trim comes back as it was. -/
theorem textBack_of_trimmed {text : Bytes} {n : Nat} (hlen : text.length ≤ n)
    (htable : ∀ c ∈ text, 0x20 ≤ c.toNat ∧ c.toNat ≤ 0x5F) (hhead : text.head? ≠ some 0x20#8)
    (hspace : text.getLast? ≠ some 0x20#8) (hat : text.getLast? ≠ some 0x40#8) : textBack text n = text := by
  have hmap : text.map (fun c => if 0x20 ≤ c.toNat ∧ c.toNat ≤ 0x5F then c else 0x40#8) = text :=
    (List.map_congr_left fun c hc => if_pos (htable c hc)).trans (List.map_id text)
  rw [textBack, hmap, List.take_of_length_le hlen, trimText_of_trimmed hhead hspace hat]

/-! ### The dispatch by type (R197) -/

theorem fldTypeOf_of_short (h : b.length < 6) : fldTypeOf b = .error .dropShort := if_pos h

theorem fldTypeOf_of_typed (h : 6 ≤ b.length) : fldTypeOf b = layoutOf (uint (b.take 6)) b.length := by
  have hread : readBits b 0 6 = b.take 6 := readBits_inside (by omega)
  rw [← hread]
  exact if_neg (Nat.not_lt.2 h)

section
variable {s : State} {c : Cause}

theorem endsWith_fldType (h : fldTypeOf s.tr.bits = .error c) : endsWith s c (exec .fldType s) := by
  have hexec : exec .fldType s = .next (s.abort c) := by
    show Host.Outcome.next (fldTypeInto s) = _
    rw [fldTypeInto, h]
  exact hexec ▸ endsWith_abort s c

theorem exec_fldType_of_layout {l : Layout} (h : fldTypeOf s.tr.bits = .ok l) :
    exec .fldType s = .next (decodeLayout s l) := by
  show Host.Outcome.next (fldTypeInto s) = _
  rw [fldTypeInto, h]

end

/-! ### The obligations of the field primitives -/

/-- Settles O41: from width 1 on the value is read from its slice and lies in its range; a text is read group by group. -/
theorem fieldReads : Obligations.FieldReads := by
  intro s o
  refine ⟨fun w hw hin => ?_, ⟨_, _, rfl, rfl⟩, fun n hin => ⟨_, rfl, spellsText_getT hin⟩⟩
  have hw0 : w ≠ 0 := Nat.one_le_iff_ne_zero.1 hw
  have hu : exec (.fldGetu o w) s = .next (s.returns (.nat (getU s.tr.bits o w))) :=
    congrArg (fun n => Host.Outcome.next (s.returns (.nat n))) (fldGetu_of_pos hw0 _ _)
  have hs : exec (.fldGets o w) s = .next (s.returns (.int (getS s.tr.bits o w))) :=
    congrArg (fun z => Host.Outcome.next (s.returns (.int z))) (fldGets_of_pos hw0 _ _)
  rw [← readBits_inside hin]
  exact ⟨hu, getU_lt s.tr.bits o w, hs, sint_readBits_range s.tr.bits o hw⟩

/-- Settles O42: one run is taken by each of the three steps of the trimming. -/
theorem trimTakesOuterPaddingOnce : Obligations.TrimTakesOuterPaddingOnce := by
  intro raw
  obtain ⟨⟨k, hraw⟩, hat⟩ := stripEnd_eq 0x40#8 raw
  obtain ⟨⟨j, hmid⟩, hspace⟩ := stripEnd_eq 0x20#8 (stripEnd 0x40#8 raw)
  obtain ⟨⟨i, hin⟩, hhead⟩ := dropWhile_eq 0x20#8 (stripEnd 0x20#8 (stripEnd 0x40#8 raw))
  have houter : stripEnd 0x40#8 raw = List.replicate i 0x20#8 ++ trimText raw ++ List.replicate j 0x20#8 :=
    hmid.trans (congrArg (· ++ List.replicate j 0x20#8) hin)
  exact ⟨i, j, k, houter ▸ hraw, houter ▸ hat, hhead, getLast?_dropWhile_ne _ hspace⟩

/-- Settles O43: a number in the range of its field is spelled by the bits appended; the groups of a text by their place. -/
theorem fieldWrites : Obligations.FieldWrites := by
  intro s
  refine ⟨fun v w => ⟨fun h0 h1 => ?_, fun h => endsWith_writeOrAbort (putU_error h) _, fun hw h0 h1 => ?_, fun hw h => ?_, ?_⟩,
    fun text n => ⟨_, rfl, putT_length text n, fun i hi => uint_putT_group text hi⟩⟩
  · have hput := putU_ok h0 h1
    exact ⟨_, next_writeOrAbort hput _, putU_length hput, uint_of_putU hput⟩
  · have hw0 : w ≠ 0 := Nat.one_le_iff_ne_zero.1 hw
    have hput := putS_ok h0 (Int.lt_of_le_sub_one h1)
    exact ⟨_, next_writeOrAbort ((fldPuts_of_pos hw0 v).trans hput) _, putS_length hput, sint_of_putS hw0 hput⟩
  · have hw0 : w ≠ 0 := Nat.one_le_iff_ne_zero.1 hw
    exact endsWith_writeOrAbort ((fldPuts_of_pos hw0 v).trans (putS_error (h.imp_right Int.le_of_sub_one_lt))) _
  · obtain hzero | hzero := fldPuts_zero v
    · refine .inl ((next_writeOrAbort hzero _).trans ?_)
      rw [List.append_nil]
      rfl
    · exact .inr (endsWith_writeOrAbort hzero _)

/-- Settles O44: the bits appended are what a read at the old end of BITS finds. -/
theorem fieldMirrorLaws : Obligations.FieldMirrorLaws := by
  intro s v w hw
  have hw0 : w ≠ 0 := Nat.one_le_iff_ne_zero.1 hw
  have hread {a : Bits} (ha : a.length = w) : readBits (s.tr.bits ++ a) s.tr.bits.length w = a :=
    ha ▸ readBits_of_prefix (by rw [List.drop_left]) (by simp)
  refine ⟨fun h0 h1 => ?_, fun h0 h1 => ?_, fun text n => ?_⟩
  · have hput := putU_ok h0 h1
    refine ⟨_, _, next_writeOrAbort hput _, rfl, congrArg Ret.nat ?_⟩
    rw [fldGetu_of_pos hw0, getU, State.withTr_tr, hread (putU_length hput)]
    exact congrArg Int.toNat (uint_of_putU hput)
  · have hput := putS_ok h0 (Int.lt_of_le_sub_one h1)
    refine ⟨_, _, next_writeOrAbort ((fldPuts_of_pos hw0 v).trans hput) _, rfl, congrArg Ret.int ?_⟩
    rw [fldGets_of_pos hw0, getS, State.withTr_tr, hread (putS_length hput), sint_of_putS hw0 hput]
  · have hback : getT (s.tr.bits ++ putT text n) s.tr.bits.length n = textBack text n :=
      getT_of_putT (by rw [List.drop_left]) (by simp)
    refine ⟨_, _, rfl, rfl, congrArg Ret.str hback, fun hlen htable hhead hspace hat => congrArg Ret.str ?_⟩
    exact hback.trans (textBack_of_trimmed hlen htable hhead hspace hat)

/-- Settles O46: the choice is that of `layoutOf` by the first six bits. -/
theorem typeChoosesTheLayout : Obligations.TypeChoosesTheLayout := by
  intro s
  refine ⟨fun h => endsWith_fldType (fldTypeOf_of_short h), fun h => ?_, _, rfl, rfl⟩
  have htyped := fldTypeOf_of_typed h
  refine ⟨fun h5 hlen => ?_, fun h5 hlen => ?_, fun ty hty hu => ⟨fun hlen => ?_, fun hlen => ?_⟩, fun hother => ?_⟩
  · rw [h5] at htyped
    exact endsWith_fldType (htyped.trans (layoutOf_static_short hlen))
  · rw [h5] at htyped
    exact ⟨_, exec_fldType_of_layout (htyped.trans (layoutOf_static hlen)), rfl⟩
  · rw [hu] at htyped
    exact endsWith_fldType (htyped.trans (layoutOf_position_short (by simpa using hty) hlen))
  · rw [hu] at htyped
    exact ⟨_, exec_fldType_of_layout (htyped.trans (layoutOf_position (by simpa using hty) hlen)), rfl⟩
  · exact endsWith_fldType (htyped.trans (layoutOf_other (by simp_all) (by simp_all) _))

end Sys2Proof.Machine
end

section
/-! SUPPORT. The two encoders (spec 44_position_report.md R228, 45_static_voyage_report.md R263): the fault they raise is that of
their first failing check (R199), and what they pack is read back field by field. -/

namespace Sys2Proof.Machine

/-! ### The first fault of a sequence of writes -/

/-- The fault of a write, if it raises one. -/
def faultOf : Except Cause Bits → Option Cause
  | .ok _ => none
  | .error c => some c

/-- The fault of a check, if it fails. -/
def faultIf (ok : Bool) (c : Cause) : Option Cause := if ok then none else some c

/-- The first fault of a sequence of writes. -/
def firstFault : List (Except Cause Bits) → Option Cause
  | [] => none
  | r :: rest => (faultOf r).or (firstFault rest)

theorem firstFailure_nil : firstFailure [] = none := rfl

theorem firstFailure_cons (ok : Bool) (c : Cause) (rest : List (Bool × Cause)) :
    firstFailure ((ok, c) :: rest) = (faultIf ok c).or (firstFailure rest) := by
  cases ok <;> rfl

/-- R228, R263: an encoder raises the fault of its first write that has one, and packs when none has. -/
theorem appendAll_cases (rs : List (Except Cause Bits)) :
    (∀ c, firstFault rs = some c → appendAll rs = .error c) ∧ (firstFault rs = none → ∃ b, appendAll rs = .ok b) := by
  induction rs with
  | nil => exact ⟨fun c h => (Option.some_ne_none c h.symm).elim, fun _ => ⟨[], rfl⟩⟩
  | cons r rest ih =>
    obtain ⟨herror, hok⟩ := ih
    cases r with
    | error c => exact ⟨fun c' h => congrArg Except.error (Option.some.inj h), fun h => (Option.some_ne_none _ h).elim⟩
    | ok a =>
      refine ⟨fun c h => ?_, fun h => ?_⟩
      · rw [appendAll_cons, herror c h]
        rfl
      · obtain ⟨b, hb⟩ := hok h
        exact ⟨a ++ b, by rw [appendAll_cons, hb]; rfl⟩

theorem faultOf_ok (a : Bits) : faultOf (.ok a) = none := rfl

theorem faultOf_putU (v : Int) (w : Nat) : faultOf (putU v w) = faultIf (fitsU v w) .encUnsignedRange := by
  by_cases h : 0 ≤ v ∧ v < 2 ^ w
  · rw [putU_ok h.1 h.2]
    simp [fitsU, faultOf, faultIf, h]
  · rw [putU_error (by omega)]
    simp [fitsU, faultOf, faultIf, h]

theorem faultOf_putS (v : Int) (w : Nat) : faultOf (putS v w) = faultIf (fitsS v w) .encSignedRange := by
  by_cases h : -(2 ^ (w - 1)) ≤ v ∧ v < 2 ^ (w - 1)
  · rw [putS_ok h.1 h.2]
    simp [fitsS, faultOf, faultIf, h]
  · rw [putS_error (by omega)]
    simp [fitsS, faultOf, faultIf, h]

/-- R199: an absent register cannot fault, since its sentinel fits. -/
theorem fitsU_orSentinel {d : Int} {w : Nat} (hd : fitsU d w = true) (r : OptReg) :
    fitsU (orSentinel r d) w = (!r.present || fitsU r.value w) := by
  cases h : r.present <;> simp [orSentinel, h, hd]

theorem fitsS_orSentinel {d : Int} {w : Nat} (hd : fitsS d w = true) (r : OptReg) :
    fitsS (orSentinel r d) w = (!r.present || fitsS r.value w) := by
  cases h : r.present <;> simp [orSentinel, h, hd]

/-! ### What a sequence of writes packs -/

/-- From offset `o` on the bit string is made of the fields, each the bits of its write and of its width. -/
def MadeOf (b : Bits) : Nat → List (Except Cause Bits × Nat) → Prop
  | o, [] => b.length = o
  | o, (r, w) :: rest => r = .ok (readBits b o w) ∧ MadeOf b (o + w) rest

/-- The bits that the write appends, if it raises no fault, have the width of its field. -/
def HasWidth (f : Except Cause Bits × Nat) : Prop := ∀ a, f.1 = .ok a → a.length = f.2

theorem hasWidth_putU (v : Int) (w : Nat) : HasWidth (putU v w, w) := fun _ h => putU_length h
theorem hasWidth_putS (v : Int) (w : Nat) : HasWidth (putS v w, w) := fun _ h => putS_length h
theorem hasWidth_putT (text : Bytes) (n : Nat) : HasWidth (.ok (putT text n), 6 * n) :=
  fun _ h => Except.ok.inj h ▸ putT_length text n

/-- R228, R263: a packed message is made of its fields in layout order. -/
theorem madeOf_of_appendAll {b : Bits} {o : Nat} {fs : List (Except Cause Bits × Nat)} (hw : ∀ f ∈ fs, HasWidth f)
    (ho : o ≤ b.length) (h : appendAll (fs.map Prod.fst) = .ok (b.drop o)) : MadeOf b o fs := by
  induction fs generalizing o with
  | nil =>
    have hlen : (b.drop o).length = 0 := congrArg List.length (Except.ok.inj h).symm
    rw [List.length_drop] at hlen
    exact (by omega : b.length = o)
  | cons f fs ih =>
    obtain ⟨r, w⟩ := f
    obtain ⟨hwidth, hrest⟩ := List.forall_mem_cons.1 hw
    cases r with
    | error c => cases h
    | ok a =>
      obtain rfl : a.length = w := hwidth a rfl
      rw [List.map_cons, appendAll_cons] at h
      obtain ⟨bs, hbs, hcat⟩ : ∃ bs, appendAll (fs.map Prod.fst) = .ok bs ∧ a ++ bs = b.drop o := by
        cases happ : appendAll (fs.map Prod.fst) with
        | error c => simp [happ, Except.map] at h
        | ok bs => exact ⟨bs, rfl, by simpa [happ, Except.map] using h⟩
      have hlen := congrArg List.length hcat
      rw [List.length_append, List.length_drop] at hlen
      have hdrop : b.drop (o + a.length) = bs := by rw [← List.drop_drop, ← hcat, List.drop_left]
      exact ⟨congrArg Except.ok (readBits_of_prefix (hcat ▸ List.prefix_append a bs) ho).symm,
        ih hrest (by omega) (hdrop ▸ hbs)⟩

/-! ### Fields read back -/

section
variable {b : Bits} {o w : Nat} {v : Int}

theorem ofNat_getU_of_putU (h : putU v w = .ok (readBits b o w)) : BitVec.ofNat w (getU b o w) = BitVec.ofInt w v := by
  rw [← uint_of_putU h, BitVec.ofInt_natCast, getU]

theorem ofInt_getS_of_putS (hw : w ≠ 0) (h : putS v w = .ok (readBits b o w)) :
    BitVec.ofInt w (getS b o w) = BitVec.ofInt w v := by
  rw [getS, sint_of_putS hw h]

theorem getT_of_readBits {text : Bytes} {n : Nat} (hin : o + 6 * n ≤ b.length)
    (h : (.ok (putT text n) : Except Cause Bits) = .ok (readBits b o (6 * n))) : getT b o n = textBack text n := by
  refine getT_of_putT ?_ (by omega)
  rw [Except.ok.inj h, readBits_inside hin]
  exact List.take_prefix _ _

/-- R228, R263: a spare field is written as zeros. -/
theorem take_drop_of_putU_zero (hin : o + w ≤ b.length) (h : putU 0 w = .ok (readBits b o w)) :
    (b.drop o).take w = bitsW w 0 := by
  rw [putU_ok le_rfl (by positivity)] at h
  rw [← readBits_inside hin, ← Except.ok.inj h, Int.toNat_zero]

end

/-! ### POS.ENCODE (R228) -/

section
variable {op : PosOperand} {b : Bits}

/-- The widths of the Position layout, R83, the spare bits included. -/
def posWidths : List Nat := [6, 2, 30, 4, 8, 10, 1, 28, 27, 12, 9, 6, 2, 3, 1, 19]

/-- The fields that POS.ENCODE writes, each with its width. -/
def posFields (op : PosOperand) : List (Except Cause Bits × Nat) := (posWrites op).zip posWidths

theorem hasWidth_posFields (op : PosOperand) : ∀ f ∈ posFields op, HasWidth f := by
  simp only [posFields, posWrites, posWidths, List.zip_cons_cons, List.zip_nil_left, List.forall_mem_cons, hasWidth_putU,
    hasWidth_putS, List.not_mem_nil, false_imp_iff, implies_true, and_self]

/-- R199, R228: behind the check of the type the writes fault as their checks fail; the sentinels and the spare bits fit. -/
theorem firstFault_posWrites (ht : op.msgType = 1 ∨ op.msgType = 2 ∨ op.msgType = 3) :
    firstFault (posWrites op) = firstFailure (posChecks op) := by
  have htype : fitsU op.msgType 6 = true := by
    obtain h | h | h := ht <;> rw [h] <;> rfl
  have hrot : fitsS rotSentinel 8 = true := rfl
  have hsog : fitsU sogSentinel 10 = true := rfl
  have hlon : fitsS lonSentinel 28 = true := rfl
  have hlat : fitsS latSentinel 27 = true := rfl
  have hcog : fitsU cogSentinel 12 = true := rfl
  have hheading : fitsU headingSentinel 9 = true := rfl
  have hutcSec : fitsU utcSecSentinel 6 = true := rfl
  have hspare : fitsU 0 3 = true := rfl
  have hfits (c : Cause) : faultIf true c = none := rfl
  simp only [posWrites, posChecks, firstFault, firstFailure_cons, faultOf_putU, faultOf_putS, fitsS_orSentinel hrot,
    fitsU_orSentinel hsog, fitsS_orSentinel hlon, fitsS_orSentinel hlat, fitsU_orSentinel hcog, fitsU_orSentinel hheading,
    fitsU_orSentinel hutcSec, htype, hspare, ht, decide_true, hfits, Option.none_or, Option.or_none,
    firstFailure_nil]

/-- R228: everything POS.ENCODE can do. -/
theorem posEncode_cases (op : PosOperand) :
    (∀ c, firstFailure (posChecks op) = some c → posEncode op = .error c) ∧
    (firstFailure (posChecks op) = none → ∃ b, posEncode op = .ok b) := by
  by_cases ht : op.msgType = 1 ∨ op.msgType = 2 ∨ op.msgType = 3
  · have henc : posEncode op = appendAll (posWrites op) := if_pos ht
    rw [henc, ← firstFault_posWrites ht]
    exact appendAll_cases (posWrites op)
  · have henc : posEncode op = .error .encType := if_neg ht
    have hfail : firstFailure (posChecks op) = some .encType := by
      simp only [posChecks, firstFailure, decide_eq_true_eq, if_neg ht]
    rw [henc, hfail]
    exact ⟨fun c h => congrArg Except.error (Option.some.inj h), fun h => (Option.some_ne_none _ h).elim⟩

theorem madeOf_of_posEncode (h : posEncode op = .ok b) : MadeOf b 0 (posFields op) := by
  have hwrites : appendAll (posWrites op) = .ok b := by
    unfold posEncode at h
    split at h
    · exact h
    · cases h
  exact madeOf_of_appendAll (hasWidth_posFields op) (Nat.zero_le _) hwrites

theorem length_of_posEncode (h : posEncode op = .ok b) : b.length = 168 := by
  obtain ⟨-, -, -, -, -, -, -, -, -, -, -, -, -, -, -, -, hlen⟩ := madeOf_of_posEncode h
  exact hlen

/-- R83: bits 145 to 147 of what POS.ENCODE packs. -/
theorem spare_of_posEncode (h : posEncode op = .ok b) : (b.drop 145).take 3 = [false, false, false] := by
  have hlen := length_of_posEncode h
  obtain ⟨-, -, -, -, -, -, -, -, -, -, -, -, -, hspare, -⟩ := madeOf_of_posEncode h
  exact take_drop_of_putU_zero (by omega) hspare

/-- R231: POS.DECODE reads back what POS.ENCODE packed. -/
theorem posDecode_of_posEncode (h : posEncode op = .ok b) (ch : Byte) : posDecode b ch = posRoundTrip op ch := by
  obtain ⟨htype, hrepeat, hmmsi, hnav, hrot, hsog, hacc, hlon, hlat, hcog, hheading, hutc, hman, -, hraim, hradio, -⟩ :=
    madeOf_of_posEncode h
  simp only [posDecode, posRoundTrip, PosRecord.mk.injEq, and_true]
  exact ⟨ofNat_getU_of_putU htype, ofNat_getU_of_putU hrepeat, ofNat_getU_of_putU hmmsi, ofNat_getU_of_putU hnav,
    ofInt_getS_of_putS (by decide) hrot, ofNat_getU_of_putU hsog, ofNat_getU_of_putU hacc,
    ofInt_getS_of_putS (by decide) hlon, ofInt_getS_of_putS (by decide) hlat, ofNat_getU_of_putU hcog,
    ofNat_getU_of_putU hheading, ofNat_getU_of_putU hutc, ofNat_getU_of_putU hman, ofNat_getU_of_putU hraim,
    ofNat_getU_of_putU hradio⟩

end

/-! ### STAT.ENCODE (R263) -/

section
variable {op : StatOperand} {b : Bits}

/-- The widths of the Static layout, R84, the spare bit included. -/
def statWidths : List Nat := [6, 2, 30, 2, 30, 42, 120, 8, 9, 9, 6, 6, 4, 4, 5, 5, 6, 8, 120, 1, 1]

/-- The fields that STAT.ENCODE writes, each with its width. -/
def statFields (op : StatOperand) : List (Except Cause Bits × Nat) := (statWrites op).zip statWidths

theorem hasWidth_statFields (op : StatOperand) : ∀ f ∈ statFields op, HasWidth f := by
  have hcallsign : HasWidth (.ok (putT op.callsign 7), 42) := hasWidth_putT op.callsign 7
  have hname : HasWidth (.ok (putT op.name 20), 120) := hasWidth_putT op.name 20
  have hdestination : HasWidth (.ok (putT op.destination 20), 120) := hasWidth_putT op.destination 20
  simp only [statFields, statWrites, statWidths, List.zip_cons_cons, List.zip_nil_left, List.forall_mem_cons, hasWidth_putU,
    hcallsign, hname, hdestination, List.not_mem_nil, false_imp_iff, implies_true, and_self]

/-- R199, R263: the writes fault as their checks fail; the type, the texts, the DTE bit, the sentinels and the spare bit fit. -/
theorem firstFault_statWrites (op : StatOperand) : firstFault (statWrites op) = firstFailure (statChecks op) := by
  have htype : fitsU 5 6 = true := rfl
  have hmonth : fitsU etaMonthSentinel 4 = true := rfl
  have hday : fitsU etaDaySentinel 5 = true := rfl
  have hhour : fitsU etaHourSentinel 5 = true := rfl
  have hminute : fitsU etaMinuteSentinel 6 = true := rfl
  have hdte : fitsU (1 - Int.ofNat op.dteAvailable.toNat) 1 = true := by
    have := op.dteAvailable.isLt
    simp only [fitsU, Int.ofNat_eq_natCast, decide_eq_true_eq]
    omega
  have hspare : fitsU 0 1 = true := rfl
  have hfits (c : Cause) : faultIf true c = none := rfl
  simp only [statWrites, statChecks, firstFault, firstFailure_cons, faultOf_putU, faultOf_ok, fitsU_orSentinel hmonth,
    fitsU_orSentinel hday, fitsU_orSentinel hhour, fitsU_orSentinel hminute, htype, hdte, hspare, hfits, Option.none_or,
    Option.or_none, firstFailure_nil]

theorem statEncode_cases (op : StatOperand) :
    (∀ c, firstFailure (statChecks op) = some c → statEncode op = .error c) ∧
    (firstFailure (statChecks op) = none → ∃ b, statEncode op = .ok b) := by
  rw [← firstFault_statWrites op]
  exact appendAll_cases (statWrites op)

theorem madeOf_of_statEncode (h : statEncode op = .ok b) : MadeOf b 0 (statFields op) :=
  madeOf_of_appendAll (hasWidth_statFields op) (Nat.zero_le _) h

theorem length_of_statEncode (h : statEncode op = .ok b) : b.length = 424 := by
  obtain ⟨-, -, -, -, -, -, -, -, -, -, -, -, -, -, -, -, -, -, -, -, -, hlen⟩ := madeOf_of_statEncode h
  exact hlen

/-- R84: bit 423 of what STAT.ENCODE packs. -/
theorem spare_of_statEncode (h : statEncode op = .ok b) : b[423]? = some false := by
  have hlen := length_of_statEncode h
  obtain ⟨-, -, -, -, -, -, -, -, -, -, -, -, -, -, -, -, -, -, -, -, hspare, -⟩ := madeOf_of_statEncode h
  have hbit : (b.drop 423).take 1 = [false] := take_drop_of_putU_zero (by omega) hspare
  simpa [List.head?_take] using congrArg List.head? hbit

/-- R259: the DTE bit is inverted on both ways. -/
theorem dte_of_putU {o : Nat} {d : BitVec 1} (h : putU (1 - Int.ofNat d.toNat) 1 = .ok (readBits b o 1)) :
    BitVec.ofNat 1 (1 - getU b o 1) = d := by
  have hread : (getU b o 1 : Int) = 1 - d.toNat := uint_of_putU h
  have hback : 1 - getU b o 1 = d.toNat := by omega
  rw [hback, BitVec.ofNat_toNat, BitVec.setWidth_eq]

/-- R266: STAT.DECODE reads back what STAT.ENCODE packed. -/
theorem statDecode_of_statEncode (h : statEncode op = .ok b) (ch : Byte) : statDecode b ch = statRoundTrip op ch := by
  have hlen := length_of_statEncode h
  obtain ⟨htype, hrepeat, hmmsi, hversion, himo, hcallsign, hname, hship, hbow, hstern, hport, hstarboard, hepfd, hmonth, hday,
    hhour, hminute, hdraught, hdestination, hdte, -, -⟩ := madeOf_of_statEncode h
  simp only [statDecode, statRoundTrip, StatRecord.mk.injEq, and_true]
  exact ⟨ofNat_getU_of_putU htype, ofNat_getU_of_putU hrepeat, ofNat_getU_of_putU hmmsi, ofNat_getU_of_putU hversion,
    ofNat_getU_of_putU himo, getT_of_readBits (by omega) hcallsign, getT_of_readBits (by omega) hname,
    ofNat_getU_of_putU hship, ofNat_getU_of_putU hbow, ofNat_getU_of_putU hstern, ofNat_getU_of_putU hport,
    ofNat_getU_of_putU hstarboard, ofNat_getU_of_putU hepfd, ofNat_getU_of_putU hmonth, ofNat_getU_of_putU hday,
    ofNat_getU_of_putU hhour, ofNat_getU_of_putU hminute, ofNat_getU_of_putU hdraught,
    getT_of_readBits (by omega) hdestination, dte_of_putU hdte⟩

end

/-! ### The obligations of the encoders -/

/-- Settles O49: the writes and the checks run in step, and every field is read back where it was written. -/
theorem positionEncodePacksOrFaults : Obligations.PositionEncodePacksOrFaults := by
  intro s op
  obtain ⟨hfault, hpack⟩ := posEncode_cases op
  refine ⟨fun c hc => endsWith_writeOrAbort (hfault c hc) _, fun hnone => ?_⟩
  obtain ⟨b, hb⟩ := hpack hnone
  refine ⟨b, next_writeOrAbort hb _, length_of_posEncode hb, spare_of_posEncode hb, fun ch u hu => ?_⟩
  cases hu
  exact posDecode_of_posEncode hb ch

/-- Settles O50, as O49. -/
theorem staticEncodePacksOrFaults : Obligations.StaticEncodePacksOrFaults := by
  intro s op
  obtain ⟨hfault, hpack⟩ := statEncode_cases op
  refine ⟨fun c hc => endsWith_writeOrAbort (hfault c hc) _, fun hnone => ?_⟩
  obtain ⟨b, hb⟩ := hpack hnone
  refine ⟨b, next_writeOrAbort hb _, length_of_statEncode hb, spare_of_statEncode hb, fun ch u hu => ?_⟩
  cases hu
  exact statDecode_of_statEncode hb ch

end Sys2Proof.Machine
end

section
/-! SUPPORT. A line of the emitter decoded (spec 46_emitter.md R280 to R287, 47_host_operations.md R302, R307): what PARSE reads in
a line, what DECODE of a single sentence answers, and the one line of a short message. -/

namespace Sys2Proof.Machine

/-! ### A line as PARSE reads it (R113, R285) -/

section
variable {cfg : Config.Params} {n i f : Nat} {seqId chunk : Bytes} {ch : Byte}

/-- R119: the registers of an admitted line are the numbers and strings that the emitter was given. -/
theorem parseLine_emtLine (hok : (lineGroups n i seqId ch chunk f).ok) (hf : f < 8)
    (hlen : (emtLine n i seqId ch chunk f).length ≤ cfg.sentMax) (hn : n ≤ cfg.partsMax) (hi : i ≤ cfg.partsMax) :
    parseLine cfg (emtLine n i seqId ch chunk f) = .ok ((lineGroups n i seqId ch chunk f).parsed n i ⟨f, hf⟩) := by
  have hval (k : Nat) : decimalValue (dec k) = k := (dec_spells k).2.2
  have hparse := parseLine_of_groups_within (fill := ⟨f, hf⟩) hok (lineGroups_line ▸ hlen) (hval f).symm
    ((hval n).trans_le hn) ((hval i).trans_le hi)
  rw [if_pos (checksumOk_iff_xorBytes.2 lineGroups_checksum.symm), lineGroups_line] at hparse
  exact hparse.trans (congrArg₂ (fun total part => Except.ok (Groups.parsed _ total part _)) (hval n) (hval i))

theorem emtLine_length : (emtLine n i seqId ch chunk f).length =
    (dec n).length + (dec i).length + seqId.length + chunk.length + (dec f).length + 16 := by
  simp only [emtLine, emtBody, emtCksum, hex2Upper, aivdmBytes, commaBytes, List.length_append, List.length_cons, List.length_nil]
  omega

end

/-! ### DECODE of a single sentence (R131, R302, R307) -/

theorem decodeAttempt_of_single {cfg : Config.Params} {line : Bytes} {p : Parsed} (rt : List Entry) (t : Time)
    (hp : parseLine cfg line = .ok p) (h1 : p.total = 1) :
    decodeAttempt cfg rt line t = (rt, payloadResponse p.payload p.fill p.chan) := by
  simp only [decodeAttempt, hp, if_pos h1]

/-- R131: a sentence of total 1 is answered from its payload, whatever RT holds. -/
theorem exec_decode_of_single {s : State} {line : Bytes} {p : Parsed} (t : Time) (hp : parseLine s.cfg line = .ok p)
    (h1 : p.total = 1) : exec (.decode line t) s =
      .next ((s.withRt (sweepTable s.rt t)).withResp (payloadResponse p.payload p.fill p.chan)).finish := by
  show execDecode line t s = _
  simp only [execDecode, decodeAttempt_of_single _ t hp h1, sweepTable_expireTable]

theorem payloadResponse_of_position {payload : Bytes} {fill : Fin 8}
    (h : fldTypeOf (armDecode payload fill) = .ok .position) (ch : Byte) :
    payloadResponse payload fill ch = ⟨.pos, .ok, .pos (posDecode (armDecode payload fill) ch)⟩ := by
  simp only [payloadResponse, h]

/-! ### Messages of whole groups (R175, R177, R180, R281, R287) -/

theorem armPad6_of_whole {b : Bits} (h : b.length % 6 = 0) : armPad6 b = b := by
  simp [armPad6, h]

theorem armDecode_of_armPack {b : Bits} {p : Bytes} {fill : Fin 8} (hb : b.length % 6 = 0) (hp : armPack b = .ok p)
    (hfill : fill = 0 ∨ fill = 6) : armDecode p fill = b := by
  rw [armDecode, armStrip_of_zero_or_six _ hfill, armUnpack_of_armPack hb hp]

theorem chunksOf_of_short {p : Bytes} (hne : p ≠ []) (hlen : p.length ≤ 60) : chunksOf p = [p] := by
  obtain ⟨c, cs, rfl⟩ := List.exists_cons_of_ne_nil hne
  have htake : (c :: cs).take Config.chunkMax = c :: cs := List.take_of_length_le hlen
  have hdrop : (c :: cs).drop Config.chunkMax = [] := List.drop_of_length_le hlen
  have hend (fuel : Nat) : chunksFrom fuel [] = [] := by cases fuel <;> rfl
  rw [chunksOf_of_ne_nil hne, List.length_cons, chunksFrom, htake, hdrop, hend]
  rfl

/-- R287: a payload of one chunk is emitted on one line, numbered 1 of 1 and with no sequence id, whatever the draw. -/
theorem emtLines_of_short {b : Bits} {p : Bytes} {ch : Byte} (hb : b.length % 6 = 0) (hp : armPack b = .ok p) (hne : p ≠ [])
    (hlen : p.length ≤ 60) (hch : ch = 0x41#8 ∨ ch = 0x42#8) (d : SeqDraw) :
    emtLines b [ch] d = .ok [emtLine 1 1 [] ch p (emtFill p.length)] := by
  have henc : armEncode b = .ok p := by rw [armEncode, armPad6_of_whole hb, hp]
  have hchan : emtChan [ch] = .ok ch := if_pos hch
  simp only [emtLines, henc, hchan, bind, Except.bind, chunksOf_of_short hne hlen]
  rfl

theorem encodeResponse_of_ok {packed : Except Cause Bits} {b : Bits} {chan : Bytes} {d : SeqDraw} {lines : List Bytes}
    (hb : packed = .ok b) (hlines : emtLines b chan d = .ok lines) :
    encodeResponse packed chan d = ⟨.lines, .ok, .lines lines⟩ := by
  simp only [encodeResponse, hb, hlines]

/-! ### The checks of an encode (R228, R284) -/

/-- The checks of the channel come behind those of the fields. -/
theorem firstFailure_append_eq_none {xs ys : List (Bool × Cause)} :
    firstFailure (xs ++ ys) = none ↔ firstFailure xs = none ∧ firstFailure ys = none := by
  induction xs with
  | nil => simp [firstFailure]
  | cons x xs ih =>
    obtain ⟨ok, c⟩ := x
    cases ok with
    | false => simp [firstFailure]
    | true => exact ih

theorem channel_of_chanCheck {ch : Byte} (h : firstFailure [chanCheck [ch]] = none) : ch = 0x41#8 ∨ ch = 0x42#8 := by
  refine or_iff_not_imp_left.2 ?_
  simpa [firstFailure, chanCheck] using h

end Sys2Proof.Machine
end

section
/-! SUPPORT. The Position report on the wire (spec 44_position_report.md R227, R231): what POS.DECODE reads, a decoded message
packed again, and the one line of a packed one decoded. -/

namespace Sys2Proof.Machine

variable {b : Bits} {o w : Nat}

/-! ### A register holds what is read (R190, R191, R227) -/

theorem toNat_ofNat_getU (h : o + w ≤ b.length) : (BitVec.ofNat w (getU b o w)).toNat = uint ((b.drop o).take w) := by
  rw [BitVec.toNat_ofNat, Nat.mod_eq_of_lt (getU_lt b o w), getU, readBits_inside h]

theorem toInt_ofInt_getS (b : Bits) (o : Nat) (hw : 1 ≤ w) : (BitVec.ofInt w (getS b o w)).toInt = sint (readBits b o w) := by
  obtain ⟨hlow, hhigh⟩ := sint_readBits_range b o hw
  exact BitVec.toInt_ofInt_eq_self hw hlow hhigh

/-! ### What is read is spelled again by its write (R194, R195) -/

theorem putU_uint (a : Bits) : putU (uint a) a.length = .ok a := by
  rw [putU_ok (Int.natCast_nonneg _) (mod_cast uint_lt a), Int.toNat_natCast, bitsW_uint]

theorem putS_sint {a : Bits} (h : a ≠ []) : putS (sint a) a.length = .ok a := by
  obtain ⟨hlow, hhigh⟩ := sint_range h
  have hmod : sint a % 2 ^ a.length = uint a % 2 ^ a.length := Int.modEq_iff_dvd.2 (dvd_uint_sub_sint a)
  have huint : (uint a : Int) % 2 ^ a.length = uint a := Int.emod_eq_of_lt (Int.natCast_nonneg _) (mod_cast uint_lt a)
  rw [putS_ok hlow (Int.lt_of_le_sub_one hhigh), hmod, huint, Int.toNat_natCast, bitsW_uint]

theorem putU_register (b : Bits) (o w : Nat) : putU (BitVec.ofNat w (getU b o w)).toNat w = .ok (readBits b o w) := by
  have hput := putU_uint (readBits b o w)
  rw [readBits_length] at hput
  rw [BitVec.toNat_ofNat, Nat.mod_eq_of_lt (getU_lt b o w), getU, hput]

theorem putS_register (b : Bits) (o : Nat) (hw : 1 ≤ w) : putS (BitVec.ofInt w (getS b o w)).toInt w = .ok (readBits b o w) := by
  have hlen := readBits_length b o w
  have hput := putS_sint (a := readBits b o w) (List.length_pos_iff.1 (by omega))
  rw [hlen] at hput
  rw [toInt_ofInt_getS b o hw, hput]

theorem putU_zero_of_spare (hin : o + w ≤ b.length) (h : (b.drop o).take w = List.replicate w false) :
    putU 0 w = .ok (readBits b o w) := by
  have hput := putU_uint (List.replicate w false)
  rw [uint_replicate_false, List.length_replicate] at hput
  rw [readBits_inside hin, h]
  exact hput

/-! ### Packing (R228) -/

/-- A bit string made of its fields is what their writes pack. -/
theorem appendAll_of_madeOf {fs : List (Except Cause Bits × Nat)} (h : MadeOf b o fs) :
    appendAll (fs.map Prod.fst) = .ok (b.drop o) ∧ o ≤ b.length := by
  induction fs generalizing o with
  | nil =>
    have hend : b.length = o := h
    rw [List.drop_of_length_le hend.le]
    exact ⟨rfl, hend.ge⟩
  | cons f fs ih =>
    obtain ⟨r, w⟩ := f
    obtain ⟨hr, hrest⟩ := h
    obtain ⟨happ, hlen⟩ := ih hrest
    refine ⟨?_, by omega⟩
    rw [List.map_cons, hr, appendAll_cons, happ, readBits_inside hlen, ← List.drop_drop]
    exact congrArg Except.ok (List.take_append_drop w (b.drop o))

/-- R231: a decoded message of a Position type with zero spare bits is made of the fields of the record. -/
theorem madeOf_posDecode (hlen : b.length = 168) (hspare : (b.drop 145).take 3 = [false, false, false]) (ch : Byte) :
    MadeOf b 0 (posFields (posOperandOf (posDecode b ch))) :=
  ⟨putU_register b 0 6, putU_register b 6 2, putU_register b 8 30, putU_register b 38 4, putS_register b 42 (by decide),
    putU_register b 50 10, putU_register b 60 1, putS_register b 61 (by decide), putS_register b 89 (by decide),
    putU_register b 116 12, putU_register b 128 9, putU_register b 137 6, putU_register b 143 2,
    putU_zero_of_spare (by omega) hspare, putU_register b 148 1, putU_register b 149 19, hlen⟩

theorem posEncode_posDecode (hlen : b.length = 168) (htype : uint (b.take 6) = 1 ∨ uint (b.take 6) = 2 ∨ uint (b.take 6) = 3)
    (hspare : (b.drop 145).take 3 = [false, false, false]) (ch : Byte) :
    posEncode (posOperandOf (posDecode b ch)) = .ok b := by
  have hread : (posDecode b ch).msgType.toNat = uint (b.take 6) := toNat_ofNat_getU (o := 0) (by omega)
  have hty : (posOperandOf (posDecode b ch)).msgType = uint (b.take 6) := congrArg Int.ofNat hread
  have htypes : (posOperandOf (posDecode b ch)).msgType = 1 ∨ (posOperandOf (posDecode b ch)).msgType = 2 ∨
      (posOperandOf (posDecode b ch)).msgType = 3 := by
    rw [hty]
    exact_mod_cast htype
  obtain ⟨hpack, -⟩ := appendAll_of_madeOf (madeOf_posDecode hlen hspare ch)
  exact (if_pos htypes).trans hpack

/-! ### A packed message on one line (R231) -/

section
variable {op : PosOperand}

theorem type_of_posEncode (h : posEncode op = .ok b) : op.msgType = 1 ∨ op.msgType = 2 ∨ op.msgType = 3 := by
  unfold posEncode at h
  split at h
  · assumption
  · cases h

/-- R197: what POS.ENCODE packs is dispatched to the Position layout. -/
theorem fldTypeOf_of_posEncode (h : posEncode op = .ok b) : fldTypeOf b = .ok .position := by
  have hlen := length_of_posEncode h
  have htype := type_of_posEncode h
  obtain ⟨hput, -⟩ := madeOf_of_posEncode h
  have hread : (uint (readBits b 0 6) : Int) = op.msgType := uint_of_putU hput
  rw [readBits_inside (by omega), List.drop_zero] at hread
  have htypes : uint (b.take 6) ∈ [1, 2, 3] := by
    simp only [List.mem_cons, List.not_mem_nil, or_false]
    rw [← hread] at htype
    exact_mod_cast htype
  rw [fldTypeOf_of_typed (by omega), layoutOf_position htypes hlen.ge]

theorem payloadResponse_of_posEncode {p : Bytes} (h : posEncode op = .ok b) (hp : armPack b = .ok p) (ch : Byte) :
    payloadResponse p 0 ch = ⟨.pos, .ok, .pos (posRoundTrip op ch)⟩ := by
  have hlen := length_of_posEncode h
  have hb : armDecode p 0 = b := armDecode_of_armPack (by omega) hp (.inl rfl)
  have htype : fldTypeOf (armDecode p 0) = .ok .position := hb.symm ▸ fldTypeOf_of_posEncode h
  rw [payloadResponse_of_position htype, hb, posDecode_of_posEncode h]

/-- R231: a packed Position message is emitted on one line of 47 bytes, with fill count 0. -/
theorem emtLines_of_posEncode {ch : Byte} (h : posEncode op = .ok b) (hch : ch = 0x41#8 ∨ ch = 0x42#8) :
    ∃ p, armPack b = .ok p ∧ (∀ c ∈ p, isArmor c = true) ∧ (emtLine 1 1 [] ch p 0).length = 47 ∧
      ∀ d, emtLines b [ch] d = .ok [emtLine 1 1 [] ch p 0] := by
  have hlen := length_of_posEncode h
  obtain ⟨p, hp, harmor, hplen⟩ := armPack_armor b
  have hp28 : p.length = 28 := by omega
  have hfill : emtFill p.length = 0 := by rw [hp28]; rfl
  have hdigits : (dec 1).length = 1 ∧ (dec 0).length = 1 := ⟨rfl, rfl⟩
  refine ⟨p, hp, harmor, ?_, fun d => ?_⟩
  · rw [emtLine_length, List.length_nil]
    omega
  · rw [emtLines_of_short (by omega) hp (List.length_pos_iff.1 (by omega)) (by omega) hch, hfill]

/-- R231: DECODE of that line delivers the record. -/
theorem exec_decode_positionLine {ch : Byte} {p : Bytes} {s : State} (t : Time) (h : posEncode op = .ok b)
    (hp : armPack b = .ok p) (harmor : ∀ c ∈ p, isArmor c = true) (hch : ch = 0x41#8 ∨ ch = 0x42#8)
    (hsent : (emtLine 1 1 [] ch p 0).length ≤ s.cfg.sentMax) (hparts : 1 ≤ s.cfg.partsMax) :
    ∃ v, exec (.decode (emtLine 1 1 [] ch p 0) t) s = .next v ∧ v.resp = ⟨.pos, .ok, .pos (posRoundTrip op ch)⟩ := by
  have hok := lineGroups_ok (n := 1) (i := 1) (seqId := []) (f := 0) le_rfl le_rfl rfl hch harmor (Nat.zero_le 7)
  have hparse := parseLine_emtLine hok (by decide) hsent hparts hparts
  exact ⟨_, exec_decode_of_single t hparse rfl, payloadResponse_of_posEncode h hp ch⟩

end

/-! ### The obligations of the Position report -/

/-- Settles O51: one way the emitter's line is read back by PARSE, the armor and the layout; the other way each field read is
spelled again by its write. -/
theorem positionRoundTrip : Obligations.PositionRoundTrip := by
  refine ⟨fun op ch hvalid hchan => ?_, fun s b hlen htype hspare => ?_⟩
  · obtain ⟨hchecks, hlast⟩ := firstFailure_append_eq_none.1 hvalid
    rw [hchan] at hlast
    have hch := channel_of_chanCheck hlast
    obtain ⟨b, hb⟩ := (posEncode_cases op).2 hchecks
    obtain ⟨p, hp, harmor, h47, hlines⟩ := emtLines_of_posEncode hb hch
    refine ⟨emtLine 1 1 [] ch p 0, fun s d => ⟨⟨_, rfl, ?_⟩, fun t hsent hparts => ?_⟩⟩
    · rw [encodeOperation_resp, hchan, encodeResponse_of_ok hb (hlines d)]
    · exact exec_decode_positionLine t hb hp harmor hch (h47.trans_le hsent) hparts
  · exact ⟨_, _, rfl, next_writeOrAbort (posEncode_posDecode hlen htype hspare s.tr.chan) _, rfl⟩

/-- Settles O47: every register holds the reading of its slice, which lies inside BITS. -/
theorem positionDecodeReadsLayout : Obligations.PositionDecodeReadsLayout := by
  intro s hlen f g
  have hu (o w : Nat) (h : o + w ≤ 168) : (BitVec.ofNat w (getU s.tr.bits o w)).toNat = f o w :=
    toNat_ofNat_getU (h.trans hlen)
  have hs (o w : Nat) (hw : 1 ≤ w) (h : o + w ≤ 168) : (BitVec.ofInt w (getS s.tr.bits o w)).toInt = g o w :=
    (toInt_ofInt_getS s.tr.bits o hw).trans (congrArg sint (readBits_inside (h.trans hlen)))
  exact ⟨posDecode s.tr.bits s.tr.chan, rfl, hu 0 6 (by decide), hu 6 2 (by decide), hu 8 30 (by decide), hu 38 4 (by decide),
    hs 42 8 (by decide) (by decide), hu 50 10 (by decide), hu 60 1 (by decide), hs 61 28 (by decide) (by decide),
    hs 89 27 (by decide) (by decide), hu 116 12 (by decide), hu 128 9 (by decide), hu 137 6 (by decide), hu 143 2 (by decide),
    hu 148 1 (by decide), hu 149 19 (by decide), rfl⟩

end Sys2Proof.Machine
end

section
/-! SUPPORT. A message of several chunks on the wire (spec 46_emitter.md R281 to R287, 41_reassembler.md R139 to R146): its lines are
the parts of one message, and the last part delivers as long as the entry is live. -/

namespace Sys2Proof.Machine

/-! ### The lines of the chunks as parts (R113, R285, R287) -/

/-- Chunk `i` of a message, numbered from 1 as its line is. -/
def chunkAt (cs : List Bytes) (i : Nat) : Bytes := cs.getD (i - 1) []

/-- The line of chunk `i`, as one of the lines that EMT writes (R287, `emtLines_of_two`). -/
def chunkLine (cs : List Bytes) (seqId : Bytes) (ch : Byte) (i : Nat) : Bytes :=
  emtLine cs.length i seqId ch (chunkAt cs i) (emtFill (chunkAt cs i).length)

theorem emtFill_lt (n : Nat) : emtFill n < 8 := Nat.mod_lt _ (by decide)

/-- What PARSE makes of that line. -/
def chunkParsed (cs : List Bytes) (seqId : Bytes) (ch : Byte) (i : Nat) : Parsed :=
  (lineGroups cs.length i seqId ch (chunkAt cs i) (emtFill (chunkAt cs i).length)).parsed cs.length i
    ⟨emtFill (chunkAt cs i).length, emtFill_lt _⟩

theorem chunkAt_mem {cs : List Bytes} {i : Nat} (h1 : 1 ≤ i) (hi : i ≤ cs.length) : chunkAt cs i ∈ cs := by
  have hlt : i - 1 < cs.length := by omega
  rw [chunkAt, List.getD_eq_getElem _ _ hlt]
  exact List.getElem_mem hlt

/-- R119: the emitter's lines are the parts of one message under its sequence id. -/
theorem partsOf_chunkLine {cfg : Config.Params} {cs : List Bytes} {seqId : Bytes} {ch : Byte}
    (hseq : seqId.all isDecimal = true) (hch : ch = 0x41#8 ∨ ch = 0x42#8) (harmor : ∀ chunk ∈ cs, ∀ c ∈ chunk, isArmor c = true)
    (hsent : ∀ i, 1 ≤ i → i ≤ cs.length → (chunkLine cs seqId ch i).length ≤ cfg.sentMax) (hparts : cs.length ≤ cfg.partsMax) :
    PartsOf cfg seqId cs.length (chunkLine cs seqId ch) (chunkParsed cs seqId ch) := by
  intro i h1 hi
  have hok := lineGroups_ok (h1.trans hi) h1 hseq hch (harmor _ (chunkAt_mem h1 hi))
    (Nat.le_of_lt_succ (emtFill_lt (chunkAt cs i).length))
  exact ⟨parseLine_emtLine hok (emtFill_lt _) (hsent i h1 hi) hparts (hi.trans hparts), rfl, rfl, rfl⟩

/-! ### Messages of two chunks (R281, R283) -/

theorem chunksFrom_nil (fuel : Nat) : chunksFrom fuel [] = [] := by cases fuel <;> rfl

theorem chunksFrom_of_ne_nil {p : Bytes} (fuel : Nat) (hne : p ≠ []) :
    chunksFrom (fuel + 1) p = p.take 60 :: chunksFrom fuel (p.drop 60) := if_neg (by simpa using hne)

theorem chunksOf_of_two {p : Bytes} (hmore : 60 < p.length) (hlen : p.length ≤ 120) :
    chunksOf p = [p.take 60, p.drop 60] := by
  have hrest : (p.drop 60).length = p.length - 60 := List.length_drop
  have hne : p ≠ [] := List.length_pos_iff.1 (by omega)
  have hrne : p.drop 60 ≠ [] := List.length_pos_iff.1 (by omega)
  obtain ⟨fuel, hfuel⟩ : ∃ fuel, p.length = fuel + 1 + 1 := ⟨p.length - 2, by omega⟩
  rw [chunksOf_of_ne_nil hne, hfuel, chunksFrom_of_ne_nil _ hne, chunksFrom_of_ne_nil _ hrne,
    List.take_of_length_le (l := p.drop 60) (by omega), List.drop_of_length_le (l := p.drop 60) (by omega), chunksFrom_nil]

/-- Line `i` of a payload of two chunks under the drawn sequence id. -/
def lineOfTwo (p : Bytes) (d : SeqDraw) (ch : Byte) (i : Nat) : Bytes :=
  chunkLine [p.take 60, p.drop 60] (dec d.digit) ch i

/-- What PARSE makes of that line. -/
def parsedOfTwo (p : Bytes) (d : SeqDraw) (ch : Byte) (i : Nat) : Parsed :=
  chunkParsed [p.take 60, p.drop 60] (dec d.digit) ch i

/-- R287: a payload of two chunks is emitted on two lines, under the drawn sequence id. -/
theorem emtLines_of_two {b : Bits} {p : Bytes} {ch : Byte} (hp : armPack (armPad6 b) = .ok p) (hmore : 60 < p.length)
    (hlen : p.length ≤ 120) (hch : ch = 0x41#8 ∨ ch = 0x42#8) (d : SeqDraw) :
    emtLines b [ch] d = .ok [lineOfTwo p d ch 1, lineOfTwo p d ch 2] := by
  have henc : armEncode b = .ok p := hp
  have hchan : emtChan [ch] = .ok ch := if_pos hch
  simp only [emtLines, henc, hchan, bind, Except.bind, chunksOf_of_two hmore hlen]
  rfl

/-! ### The last part of a live entry (R139, R143) -/

section
variable {cfg : Config.Params} {seq : Bytes} {n : Nat} {line : Nat → Bytes} {p : Nat → Parsed} {t1 t2 : Time} {seen : List Nat}
  {i j : Nat} {s u : State} {e : Entry}

theorem Collected.age_le (h : Collected seq n t1 p seen e) (hlive : t2 ≤ t1 + 30000) : age e t2 ≤ 30000 := by
  rw [age, h.created]
  split
  · exact Nat.sub_le_of_le_add (Nat.add_comm t1 30000 ▸ hlive)
  · exact Nat.zero_le _

/-- The last part to arrive delivers the message as long as the entry has not expired (R139 to R141, R143). -/
theorem exec_decode_last_part_of_live (hparts : PartsOf cfg seq n line p) (hn : 2 ≤ n) (hu : Awaits cfg seq n t1 p seen u)
    (hlive : t2 ≤ t1 + 30000) (h1 : 1 ≤ i) (hi : i ≤ n) (hnew : i ∉ seen) (hfull : seen.length + 1 = n)
    (hall : ∀ j, 1 ≤ j → j ≤ n → j ∈ seen ++ [i]) :
    ∃ v, exec (.decode (line i) t2) u = .next v ∧
      v.resp = payloadResponse ((List.range n).map (fun i => (p (i + 1)).payload)).flatten (p n).fill (p i).chan := by
  obtain ⟨rfl, ⟨hw, -⟩, e, hget, he⟩ := hu
  obtain ⟨hp, htotal, hpart, hseq⟩ := hparts i h1 hi
  subst hseq
  have hne : (p i).total ≠ 1 := by omega
  have hstored := he.afterPart hnew
  obtain ⟨v, hexec, hresp, -⟩ := exec_decode_of_completing hw hp hne hget (he.age_le hlive)
    (by rw [hpart, he.putPart_length hnew, hfull, he.total]) (by rw [hpart]; exact hstored.whole hall)
  rw [hpart, hstored.joined hall, hstored.fill (hall n (by omega) le_rfl)] at hresp
  exact ⟨v, hexec, hresp⟩

/-- R134, R139: the two parts of a message in either order, the second while the entry of the first is live. -/
theorem exec_decode_two_parts (hparts : PartsOf s.cfg seq 2 line p) (hinv : tableInv s.cfg s.rt)
    (habsent : tableGet s.rt (rsmKey seq) = none) (hroom : s.rt.length < s.cfg.nEntries)
    (hij : (i = 1 ∧ j = 2) ∨ (i = 2 ∧ j = 1)) (hlive : t2 ≤ t1 + 30000) :
    ∃ v w, exec (.decode (line i) t1) s = .next v ∧ v.resp = ⟨.none, .buffered, .nothing⟩ ∧
      exec (.decode (line j) t2) v = .next w ∧
      w.resp = payloadResponse ((p 1).payload ++ (p 2).payload) (p 2).fill (p j).chan := by
  obtain ⟨v, hfirst, hbuffered, hv⟩ := exec_decode_first_part (t := t1) (i := i) hparts le_rfl hinv habsent hroom
    (by omega) (by omega)
  obtain ⟨w, hsecond, hresp⟩ := exec_decode_last_part_of_live (i := j) hparts le_rfl hv hlive (by omega) (by omega)
    (by rw [List.mem_singleton]; omega) rfl
    (fun k h1 h2 => by simp only [List.cons_append, List.nil_append, List.mem_cons, List.not_mem_nil]; omega)
  have hjoined : ((List.range 2).map (fun i => (p (i + 1)).payload)).flatten = (p 1).payload ++ (p 2).payload := by
    simp [List.range_succ]
  exact ⟨v, w, hfirst, hbuffered, hsecond, hjoined ▸ hresp⟩

end

end Sys2Proof.Machine
end

section
/-! SUPPORT. The Static and Voyage Report on the wire (spec 45_static_voyage_report.md R262, R266): what STAT.DECODE reads, which of
the received bits it does not look at, and the two lines of a packed message decoded. -/

namespace Sys2Proof.Machine

/-! ### Bits behind the layout are not read (R197, R262) -/

section
variable {b : Bits} {o w n : Nat}

theorem getU_append (c : Bits) (h : o + w ≤ b.length) : getU (b ++ c) o w = getU b o w := by
  have hlen : o + w ≤ (b ++ c).length := by rw [List.length_append]; omega
  rw [getU, getU, readBits_inside hlen, readBits_inside h, List.drop_append_of_le_length (by omega),
    List.take_append_of_le_length (by rw [List.length_drop]; omega)]

theorem getT_append (c : Bits) (h : o + 6 * n ≤ b.length) : getT (b ++ c) o n = getT b o n := by
  refine congrArg trimText (List.ext_getElem? fun i => ?_)
  rcases Nat.lt_or_ge i n with hi | hi
  · rw [rawText_getElem? _ _ hi, rawText_getElem? _ _ hi, getU_append c (by omega)]
  · rw [List.getElem?_eq_none (by rwa [rawText_length]), List.getElem?_eq_none (by rwa [rawText_length])]

theorem statDecode_append (c : Bits) (h : 424 ≤ b.length) (ch : Byte) : statDecode (b ++ c) ch = statDecode b ch := by
  simp (disch := omega) only [statDecode, getU_append, getT_append]

theorem payloadResponse_of_static {payload : Bytes} {fill : Fin 8}
    (h : fldTypeOf (armDecode payload fill) = .ok .static) (ch : Byte) :
    payloadResponse payload fill ch = ⟨.stat, .ok, .stat (statDecode (armDecode payload fill) ch)⟩ := by
  simp only [payloadResponse, h]

end

/-! ### A packed message on two lines (R266) -/

section
variable {op : StatOperand} {b : Bits} {ch : Byte} {p : Bytes}

/-- R197: what STAT.ENCODE packs is dispatched to the Static layout, whatever follows it. -/
theorem fldTypeOf_of_statEncode (h : statEncode op = .ok b) (c : Bits) : fldTypeOf (b ++ c) = .ok .static := by
  have hlen := length_of_statEncode h
  have hlong : 424 ≤ (b ++ c).length := by rw [List.length_append]; omega
  obtain ⟨hput, -⟩ := madeOf_of_statEncode h
  have hread : (getU b 0 6 : Int) = 5 := uint_of_putU hput
  have htype : uint ((b ++ c).take 6) = 5 := by
    rw [List.take_append_of_le_length (by omega), ← List.drop_zero (l := b), ← readBits_inside (by omega)]
    exact_mod_cast hread
  rw [fldTypeOf_of_typed (by omega), htype, layoutOf_static hlong]

/-- R173, R266: the payload carries two bits of padding, which fill count 6 leaves in BITS and STAT.DECODE does not read. -/
theorem payloadResponse_of_statEncode (h : statEncode op = .ok b) (hp : armPack (armPad6 b) = .ok p) (ch : Byte) :
    payloadResponse p 6 ch = ⟨.stat, .ok, .stat (statRoundTrip op ch)⟩ := by
  have hb : armDecode p 6 = armPad6 b := armDecode_of_armPack (armPad6_length b) hp (.inr rfl)
  have htype : fldTypeOf (armDecode p 6) = .ok .static := hb.symm ▸ fldTypeOf_of_statEncode h _
  rw [payloadResponse_of_static htype, hb, armPad6, statDecode_append _ (length_of_statEncode h).ge, statDecode_of_statEncode h]

theorem length_of_armPack_statEncode (h : statEncode op = .ok b) (hp : armPack (armPad6 b) = .ok p) : p.length = 71 := by
  have hlen := length_of_statEncode h
  rw [armPack_length hp, armPad6, List.length_append, List.length_replicate, hlen]

theorem dec_digit_length (d : SeqDraw) : (dec d.digit).length = 1 := by
  obtain ⟨k⟩ := d
  revert k
  decide

/-- R287, R266: the two lines have 80 and 31 bytes. -/
theorem lineOfTwo_length (hlen : p.length = 71) (d : SeqDraw) (ch : Byte) :
    (lineOfTwo p d ch 1).length = 80 ∧ (lineOfTwo p d ch 2).length = 31 := by
  have hfirst : (p.take 60).length = 60 := List.length_take_of_le (by omega)
  have hsecond : (p.drop 60).length = 11 := by rw [List.length_drop, hlen]
  have hone : (dec 1).length = 1 ∧ (dec 2).length = 1 := ⟨rfl, rfl⟩
  have hfill : (dec (emtFill 60)).length = 1 ∧ (dec (emtFill 11)).length = 1 := ⟨rfl, rfl⟩
  have hdraw := dec_digit_length d
  simp only [lineOfTwo, chunkLine, emtLine_length, chunkAt, List.length_cons, List.length_nil, List.getD_cons_zero,
    List.getD_cons_succ, Nat.reduceAdd, Nat.reduceSub, hfirst, hsecond]
  omega

/-- R119, R266: the two lines are the two parts of one message under the drawn sequence id. -/
theorem partsOf_staticLines {cfg : Config.Params} (hlen : p.length = 71) (harmor : ∀ c ∈ p, isArmor c = true)
    (hch : ch = 0x41#8 ∨ ch = 0x42#8) (hsent : 80 ≤ cfg.sentMax) (hparts : 2 ≤ cfg.partsMax) (d : SeqDraw) :
    PartsOf cfg (dec d.digit) 2 (lineOfTwo p d ch) (parsedOfTwo p d ch) := by
  obtain ⟨-, hdecimal, -⟩ := dec_spells d.digit
  refine partsOf_chunkLine (cs := [p.take 60, p.drop 60]) hdecimal hch (fun chunk hchunk c hc => harmor c ?_)
    (fun i h1 hi => ?_) hparts
  · rcases List.mem_pair.1 hchunk with rfl | rfl
    · exact List.mem_of_mem_take hc
    · exact List.mem_of_mem_drop hc
  · obtain ⟨h80, h31⟩ := lineOfTwo_length hlen d ch
    have hi2 : i ≤ 2 := hi
    obtain rfl | rfl : i = 1 ∨ i = 2 := by omega
    · exact h80.trans_le hsent
    · exact h31.trans_le (by omega)

/-- R266: the two lines decoded in either order deliver the record. -/
theorem exec_decode_staticLines {s : State} {d : SeqDraw} {i j : Nat} {t1 t2 : Time} (h : statEncode op = .ok b)
    (hp : armPack (armPad6 b) = .ok p) (harmor : ∀ c ∈ p, isArmor c = true) (hch : ch = 0x41#8 ∨ ch = 0x42#8)
    (hsent : 80 ≤ s.cfg.sentMax) (hparts : 2 ≤ s.cfg.partsMax) (hinv : tableInv s.cfg s.rt)
    (habsent : tableGet s.rt ⟨true, dec d.digit⟩ = none) (hroom : s.rt.length < s.cfg.nEntries)
    (hij : (i = 1 ∧ j = 2) ∨ (i = 2 ∧ j = 1)) (hlive : t2 ≤ t1 + 30000) :
    ∃ v w, exec (.decode (lineOfTwo p d ch i) t1) s = .next v ∧ v.resp = ⟨.none, .buffered, .nothing⟩ ∧
      exec (.decode (lineOfTwo p d ch j) t2) v = .next w ∧ w.resp = ⟨.stat, .ok, .stat (statRoundTrip op ch)⟩ := by
  have hlen := length_of_armPack_statEncode h hp
  have hmessage := partsOf_staticLines hlen harmor hch hsent hparts d
  obtain ⟨hne, -⟩ := dec_spells d.digit
  have hkey : rsmKey (dec d.digit) = ⟨true, dec d.digit⟩ := (rsmKey_eq _).trans (if_neg hne)
  obtain ⟨v, w, hfirst, hbuffered, hsecond, hresp⟩ := exec_decode_two_parts hmessage hinv (hkey ▸ habsent) hroom hij hlive
  have hjoined : p.take 60 ++ p.drop 60 = p := List.take_append_drop 60 p
  have hfill : (parsedOfTwo p d ch 2).fill = 6 := by
    have hrest : (p.drop 60).length = 11 := by rw [List.length_drop, hlen]
    exact Fin.ext (congrArg emtFill hrest)
  refine ⟨v, w, hfirst, hbuffered, hsecond, hresp.trans ?_⟩
  rw [hfill, ← payloadResponse_of_statEncode h hp ch]
  exact congrArg (fun q => payloadResponse q 6 ch) hjoined

end

/-! ### The obligations of the Static report -/

/-- Settles O52: the two lines are the parts of one message, joined to the payload whose bits STAT.ENCODE packed. -/
theorem staticRoundTrip : Obligations.StaticRoundTrip := by
  intro op ch d hvalid hchan
  obtain ⟨hchecks, hlast⟩ := firstFailure_append_eq_none.1 hvalid
  rw [hchan] at hlast
  have hch := channel_of_chanCheck hlast
  obtain ⟨b, hb⟩ := (statEncode_cases op).2 hchecks
  obtain ⟨p, hp, harmor, -⟩ := armPack_armor (armPad6 b)
  have hlen := length_of_armPack_statEncode hb hp
  have hlines := emtLines_of_two hp (by omega) (by omega) hch d
  refine ⟨lineOfTwo p d ch 1, lineOfTwo p d ch 2, fun s => ⟨⟨_, rfl, ?_⟩,
    fun first second t1 t2 horder _ hlive hsent hparts hinv habsent hroom => ?_⟩⟩
  · rw [encodeOperation_resp, hchan, encodeResponse_of_ok hb hlines]
  · have hdecode {i j : Nat} (hij : (i = 1 ∧ j = 2) ∨ (i = 2 ∧ j = 1)) :=
      exec_decode_staticLines hb hp harmor hch hsent hparts hinv habsent hroom hij (Nat.le_of_lt hlive)
    obtain ⟨rfl, rfl⟩ | ⟨rfl, rfl⟩ := horder
    · exact hdecode (.inl ⟨rfl, rfl⟩)
    · exact hdecode (.inr ⟨rfl, rfl⟩)

/-- Settles O48: every register holds the reading of its slice, which lies inside BITS. -/
theorem staticDecodeReadsLayout : Obligations.StaticDecodeReadsLayout := by
  intro s hlen f
  have hu (o w : Nat) (h : o + w ≤ 424) : (BitVec.ofNat w (getU s.tr.bits o w)).toNat = f o w :=
    toNat_ofNat_getU (h.trans hlen)
  have ht (o n : Nat) (h : o + 6 * n ≤ 424) : spellsText s.tr.bits o n (getT s.tr.bits o n) := spellsText_getT (h.trans hlen)
  have hdte : (statDecode s.tr.bits s.tr.chan).dteAvailable.toNat + f 422 1 = 1 := by
    have hbit : getU s.tr.bits 422 1 < 2 := getU_lt s.tr.bits 422 1
    have hread : getU s.tr.bits 422 1 = f 422 1 := congrArg uint (readBits_inside (by omega))
    rw [← hread, statDecode, BitVec.toNat_ofNat]
    omega
  exact ⟨statDecode s.tr.bits s.tr.chan, rfl, hu 0 6 (by decide), hu 6 2 (by decide), hu 8 30 (by decide), hu 38 2 (by decide),
    hu 40 30 (by decide), hu 232 8 (by decide), hu 240 9 (by decide), hu 249 9 (by decide), hu 258 6 (by decide),
    hu 264 6 (by decide), hu 270 4 (by decide), hu 274 4 (by decide), hu 278 5 (by decide), hu 283 5 (by decide),
    hu 288 6 (by decide), hu 294 8 (by decide), hdte, rfl, ht 70 7 (by decide), ht 112 20 (by decide), ht 302 20 (by decide)⟩

end Sys2Proof.Machine
end

section
/-! SUPPORT. The pieces of the emitter (spec 46_emitter.md R281 to R287): the greedy division of the payload, the fill count, the
channel, the spelling of numbers and of the checksum, and the lines of EMT as the lines of its chunks. -/

namespace Sys2Proof.Machine

/-! ### The greedy division (R281) -/

/-- What R281 says of the chunks `cs` of `p`: joined they are `p`, there are as many as groups of 60 bytes begun, all but the last
are full and none is empty. -/
structure GreedyChunks (p : Bytes) (cs : List Bytes) : Prop where
  flatten : cs.flatten = p
  count : cs.length = (p.length + 59) / 60
  full : ∀ c ∈ cs.dropLast, c.length = 60
  bounds : ∀ c ∈ cs, 1 ≤ c.length ∧ c.length ≤ 60

theorem GreedyChunks.nil : GreedyChunks [] [] := ⟨rfl, rfl, List.forall_mem_nil _, List.forall_mem_nil _⟩

theorem GreedyChunks.cons {p : Bytes} {cs : List Bytes} (hne : p ≠ []) (h : GreedyChunks (p.drop 60) cs) :
    GreedyChunks p (p.take 60 :: cs) where
  flatten := by rw [List.flatten_cons, h.flatten, List.take_append_drop]
  count := by
    have hpos := List.length_pos_iff.2 hne
    rw [List.length_cons, h.count, List.length_drop]
    omega
  full := by
    cases cs with
    | nil => exact List.forall_mem_nil _
    | cons c cs =>
      have hmore : 60 ≤ p.length := by
        have hcount := h.count
        rw [List.length_cons, List.length_drop] at hcount
        omega
      rw [List.dropLast_cons_of_ne_nil (List.cons_ne_nil c cs)]
      exact List.forall_mem_cons.2 ⟨List.length_take_of_le hmore, h.full⟩
  bounds := by
    have hpos := List.length_pos_iff.2 hne
    have hlen : (p.take 60).length = min 60 p.length := List.length_take
    exact List.forall_mem_cons.2 ⟨by omega, h.bounds⟩

theorem chunksFrom_greedy {fuel : Nat} {p : Bytes} (hfuel : p.length ≤ fuel) : GreedyChunks p (chunksFrom fuel p) := by
  induction fuel generalizing p with
  | zero => exact List.length_eq_zero_iff.1 (Nat.le_zero.1 hfuel) ▸ .nil
  | succ fuel ih =>
    by_cases hne : p = []
    · rw [hne, chunksFrom_nil]
      exact .nil
    · rw [chunksFrom_of_ne_nil fuel hne]
      exact .cons hne (ih (by rw [List.length_drop]; omega))

theorem chunksOf_greedy {p : Bytes} (hne : p ≠ []) : GreedyChunks p (chunksOf p) :=
  chunksOf_of_ne_nil hne ▸ chunksFrom_greedy le_rfl

/-! ### Fill counts, sequence ids and channels (R282 to R284) -/

/-- R282: the fill count is decided by the length modulo 4. -/
theorem emtFill_eq (n : Nat) : emtFill n = if n % 4 = 0 then 0 else if n % 4 = 1 then 2 else if n % 4 = 2 then 4 else 6 := by
  unfold emtFill
  split_ifs <;> omega

theorem dec_of_lt_ten {n : Nat} (h : n < 10) : dec n = [BitVec.ofNat 8 (0x30 + n)] := by
  rw [dec, decDigits, if_pos h, List.reverse_singleton]

theorem SeqDraw.digit_lt_ten (d : SeqDraw) : d.digit < 10 := by
  have h : ∀ k : Fin (Config.seqHi - Config.seqLo + 1), Config.seqLo + k.val < 10 := by decide
  exact h d.above

/-- R283: more than one sentence, or none, carries the digit drawn. -/
theorem emtSeq_of_ne_one {n : Nat} (hn : n ≠ 1) (d : SeqDraw) : emtSeq n d = [BitVec.ofNat 8 (0x30 + d.digit)] :=
  (if_neg hn).trans (dec_of_lt_ten (SeqDraw.digit_lt_ten d))

theorem emtChan_of_channel {ch : Byte} (h : ch = 0x41#8 ∨ ch = 0x42#8) : emtChan [ch] = .ok ch := if_pos h

theorem emtChan_of_other {c : Bytes} (ha : c ≠ [0x41#8]) (hb : c ≠ [0x42#8]) : emtChan c = .error .encChannel := by
  match c with
  | [] | _ :: _ :: _ => rfl
  | [ch] => exact if_neg (by rintro (rfl | rfl) <;> contradiction)

/-! ### Numerals and checksums (R285, R286) -/

/-- The most significant digit is 0 in the spelling of 0 only. -/
theorem eq_zero_of_decDigits_getLast? {fuel n : Nat} (hn : n < fuel) (h0 : (decDigits fuel n).getLast? = some 0x30#8) :
    n = 0 := by
  induction fuel generalizing n with
  | zero => exact absurd hn (Nat.not_lt_zero n)
  | succ fuel ih =>
    unfold decDigits at h0
    split at h0
    · next hlt =>
      obtain ⟨hval, -⟩ := digit_byte hlt
      rw [List.getLast?_singleton, Option.some_inj] at h0
      rw [← hval, h0]
      rfl
    · next hge =>
      have hrest : n / 10 < fuel := by omega
      obtain ⟨hne, -, -⟩ := decDigits_spells hrest
      obtain ⟨c, cs, hcons⟩ := List.exists_cons_of_ne_nil hne
      rw [hcons, List.getLast?_cons_cons, ← hcons] at h0
      have hzero := ih hrest h0
      omega

theorem dec_isNumeral (n : Nat) : isNumeral (dec n) n := by
  obtain ⟨hne, hall, hval⟩ := dec_spells n
  refine ⟨hne, hall, hval, fun hhead => ?_⟩
  rw [dec, List.head?_reverse] at hhead
  rw [eq_zero_of_decDigits_getLast? (Nat.lt_succ_self n) hhead]
  rfl

theorem hexDigit_upper {v : Nat} (hv : v < 16) : (hexDigit v).toNat < 0x61 :=
  have h : ∀ v < 16, (hexDigit v).toNat < 0x61 := by decide
  h v hv

/-- The value that the two digits of a byte spell. -/
theorem ofNat_nibbles (v : Byte) : BitVec.ofNat 8 (16 * (v.toNat / 16) + v.toNat % 16) = v := by
  rw [Nat.div_add_mod, BitVec.ofNat_toNat, BitVec.setWidth_eq]

/-- The last two groups of a line are what EMT.CKSUM gives for its body. -/
theorem emtCksum_lineGroups_body (n i : Nat) (seqId : Bytes) (ch : Byte) (chunk : Bytes) (f : Nat) :
    emtCksum (lineGroups n i seqId ch chunk f).body =
      [(lineGroups n i seqId ch chunk f).h, (lineGroups n i seqId ch chunk f).l] := by
  rw [lineGroups_body, emtCksum, hex2Upper, lineGroups]

/-! ### The lines of EMT (R287) -/

theorem emtLines_of_armEncode {b : Bits} {p : Bytes} {ch : Byte} (hp : armEncode b = .ok p) (hch : ch = 0x41#8 ∨ ch = 0x42#8)
    (d : SeqDraw) :
    emtLines b [ch] d = .ok (emtLinesFrom (chunksOf p).length (emtSeq (chunksOf p).length d) ch 1 (chunksOf p)) := by
  simp only [emtLines, hp, emtChan_of_channel hch, bind, Except.bind]

/-- Packing cannot fault, so the channel is the one thing that EMT refuses. -/
theorem emtLines_of_bad_channel (b : Bits) {c : Bytes} (h : emtChan c = .error .encChannel) (d : SeqDraw) :
    emtLines b c d = .error .encChannel := by
  obtain ⟨p, hp, -, -⟩ := armPack_armor (armPad6 b)
  have henc : armEncode b = .ok p := hp
  simp only [emtLines, henc, h, bind, Except.bind]

section
variable {s : State} {c : Bytes} {d : SeqDraw}

theorem exec_emt_of_ok {lines : List Bytes} (h : emtLines s.tr.bits c d = .ok lines) :
    exec (.emt c d) s =
      .next ((s.withTr { s.tr with bits := armPad6 s.tr.bits, out := lines }).withResp ⟨.lines, .ok, .lines lines⟩) := by
  show execEmt c d s = _
  rw [execEmt, h]

theorem endsWith_emt {cause : Cause} (h : emtLines s.tr.bits c d = .error cause) : endsWith s cause (exec (.emt c d) s) := by
  show endsWith s cause (execEmt c d s)
  rw [execEmt, h]
  exact endsWith_abort s cause

theorem exec_emtPad_of_ok {p : Bytes} (h : armEncode s.tr.bits = .ok p) :
    exec .emtPad s = .next ((s.withBits (armPad6 s.tr.bits)).withTr ((s.withBits (armPad6 s.tr.bits)).tr.withString p)) :=
  next_writeOrAbort h _

end

/-! ### The obligations of the emitter -/

/-- Settles O54: each piece returns the value that its own lemma above describes. -/
theorem emitterPieces : Obligations.EmitterPieces := by
  intro s
  have hreturns {v w : Ret} (h : v = w) :
      (Host.Outcome.next (s.returns v) : Host.Outcome State Fault Refusal) = .next (s.withTr { s.tr with ret := w }) := h ▸ rfl
  refine ⟨fun p hne => ?_, ⟨_, rfl⟩, fun n => hreturns (congrArg Ret.nat (emtFill_eq n)), fun d => rfl,
    fun n d hn => hreturns (congrArg Ret.str (emtSeq_of_ne_one hn d)), fun ch hch => next_writeOrAbort (emtChan_of_channel hch) _,
    fun c ha hb => endsWith_writeOrAbort (emtChan_of_other ha hb) _, fun body => ?_, fun n i seqId ch chunk f => ?_⟩
  · have hgreedy := chunksOf_greedy hne
    exact ⟨chunksOf p, rfl, hgreedy.flatten, hgreedy.count, hgreedy.full,
      fun c hc => hgreedy.bounds c (List.mem_of_getLast? hc)⟩
  · have hhigh : (xorBytes body).toNat / 16 < 16 := Nat.div_lt_of_lt_mul (xorBytes body).isLt
    have hlow : (xorBytes body).toNat % 16 < 16 := Nat.mod_lt _ (by decide)
    refine ⟨_, _, _, _, rfl, hexVal_high _, hexVal_low _, hexDigit_upper hhigh, hexDigit_upper hlow, fun i _ => ?_⟩
    rw [ofNat_nibbles, getLsbD_xorBytes]
  · exact ⟨lineGroups n i seqId ch chunk f, hreturns (congrArg Ret.str lineGroups_line.symm), rfl, dec_isNumeral n,
      dec_isNumeral i, dec_isNumeral f, rfl, rfl, rfl,
      hreturns (congrArg Ret.str (emtCksum_lineGroups_body n i seqId ch chunk f))⟩

/-- Settles O55: the payload is that of EMT.PAD, its chunks those of EMT.CHUNK, and each line that of EMT.LINE. -/
theorem emitWritesOneLinePerChunk : Obligations.EmitWritesOneLinePerChunk := by
  intro s d
  refine ⟨fun ch hch => ?_, fun c ha hb => endsWith_emt (emtLines_of_bad_channel s.tr.bits (emtChan_of_other ha hb) d)⟩
  obtain ⟨p, hp, -, -⟩ := armPack_armor (armPad6 s.tr.bits)
  refine ⟨p, chunksOf p, _, _, _, exec_emtPad_of_ok hp, rfl, rfl, rfl, exec_emt_of_ok (emtLines_of_armEncode hp hch d),
    emtLinesFrom_length _ _ _ _ _, fun i c hc => ⟨_, _, rfl, rfl, _, ?_, rfl⟩⟩
  rw [emtLinesFrom_getElem?, hc, Nat.add_comm 1 i]
  rfl

end Sys2Proof.Machine
end

section
/-! SUPPORT. The host operations (spec 47_host_operations.md R300 to R306): the command that a step takes, DECODE as the run of its
micro-operations, the fault or the lines of an encode, and the evictions of SWEEP. -/

namespace Sys2Proof.Machine

variable {s : State}

/-! ### The port (log 1) -/

theorem step_of_decode_ok {c : Command} {rest : List Command} {i : Instr} (hport : s.port = c :: rest)
    (hdecode : decode s.cfg c = .ok i) : step s = exec i (s.withPort rest) := by
  simp only [step, hport, hdecode]

theorem step_of_decode_error {c : Command} {rest : List Command} {e : DecodeError} (hport : s.port = c :: rest)
    (hdecode : decode s.cfg c = .error e) : step s = .refused (.undecodable e) := by
  simp only [step, hport, hdecode]

theorem step_of_idle (hport : s.port = []) : step s = .next s := by
  simp only [step, hport]

/-! ### The attempt of a DECODE as PARSE and RSM.BYPASS (R131, R302) -/

section
variable {line : Bytes}

theorem parseInto_of_error {c : Cause} (h : parseLine s.cfg line = .error c) : parseInto s line = s.abort c := by
  rw [parseInto, h, State.writeOrAbort_error, State.abort_withTr]

theorem decodeAttempt_of_drop {cfg : Config.Params} {c : Cause} (rt : List Entry) (t : Time) (h : parseLine cfg line = .error c) :
    decodeAttempt cfg rt line t = (rt, Response.ofCause c) := by
  simp only [decodeAttempt, h]

theorem exec_rsmBypass_of_ne_one (t : Time) (h : s.tr.total ≠ 1) : exec (.rsmBypass t) s = .next (rsmInto s t) :=
  congrArg Host.Outcome.next (if_neg h)

theorem rsmInto_resp (t : Time) : (rsmInto s t).resp =
    (rsmStep s.cfg s.rt s.tr.seq s.tr.total s.tr.part s.tr.payload s.tr.fill t).2.response s.tr.chan :=
  rsmTail_resp _ _

/-- RSM.BYPASS behind PARSE of an admitted sentence leaves the table and the response of the attempt. -/
theorem exec_rsmBypass_parsed {p : Parsed} (t : Time) (hp : parseLine s.cfg line = .ok p) :
    ∃ u, exec (.rsmBypass t) (parseInto s line) = .next u ∧ u.rt = (decodeAttempt s.cfg s.rt line t).1 ∧
      u.resp = (decodeAttempt s.cfg s.rt line t).2 := by
  rw [parseInto_of_ok hp]
  by_cases h1 : p.total = 1
  · rw [decodeAttempt_of_single s.rt t hp h1]
    exact ⟨_, exec_rsmBypass_of_one t h1, decodePayloadInto_rt _, decodePayloadInto_resp _⟩
  · rw [decodeAttempt_of_parts hp h1]
    exact ⟨_, exec_rsmBypass_of_ne_one t h1, rsmInto_rt _ t, rsmInto_resp t⟩

end

/-! ### The fault or the lines of an encode (R284, R303, R304, R340) -/

section
variable {packed : Except Cause Bits} {chan : Bytes} {d : SeqDraw}

theorem firstFailure_append (xs ys : List (Bool × Cause)) :
    firstFailure (xs ++ ys) = (firstFailure xs).or (firstFailure ys) := by
  induction xs with
  | nil => rfl
  | cons x xs ih =>
    obtain ⟨ok, c⟩ := x
    rw [List.cons_append, firstFailure_cons, firstFailure_cons, ih, Option.or_assoc]

/-- R284: everything the check of the channel can say of EMT.CHAN. -/
theorem chanCheck_cases (chan : Bytes) :
    (firstFailure [chanCheck chan] = some .encChannel ∧ emtChan chan = .error .encChannel) ∨
    (firstFailure [chanCheck chan] = none ∧ ∃ ch, chan = [ch] ∧ (ch = 0x41#8 ∨ ch = 0x42#8)) := by
  by_cases ha : chan = [0x41#8]
  · subst ha
    exact .inr ⟨rfl, _, rfl, .inl rfl⟩
  · by_cases hb : chan = [0x42#8]
    · subst hb
      exact .inr ⟨rfl, _, rfl, .inr rfl⟩
    · exact .inl ⟨by simp [chanCheck, firstFailure, ha, hb], emtChan_of_other ha hb⟩

theorem encodeOperation_of_ok {b : Bits} {lines : List Bytes} (hb : packed = .ok b) (hlines : emtLines b chan d = .ok lines) :
    encodeOperation s packed chan d = (s.withResp ⟨.lines, .ok, .lines lines⟩).finish := by
  simp only [encodeOperation, hb, hlines]

theorem encodeOperation_of_error {c : Cause} (h : packed = .error c) : encodeOperation s packed chan d = s.abort c := by
  simp only [encodeOperation, h]

theorem encodeOperation_of_bad_channel {b : Bits} (hb : packed = .ok b) (hchan : emtChan chan = .error .encChannel) :
    encodeOperation s packed chan d = s.abort .encChannel := by
  simp only [encodeOperation, hb, emtLines_of_bad_channel b hchan d]

/-- R338, R340: an encode whose packing faults as its checks say takes the fault of the first that fails, the channel last. -/
theorem endsWith_encodeOperation {checks : List (Bool × Cause)} {c : Cause}
    (hpacked : (∀ c, firstFailure checks = some c → packed = .error c) ∧ (firstFailure checks = none → ∃ b, packed = .ok b))
    (hc : firstFailure (checks ++ [chanCheck chan]) = some c) : endsWith s c (.next (encodeOperation s packed chan d)) := by
  obtain ⟨hfault, hpack⟩ := hpacked
  rw [firstFailure_append, Option.or_eq_some_iff] at hc
  obtain hc | ⟨hnone, hlast⟩ := hc
  · rw [encodeOperation_of_error (hfault c hc)]
    exact endsWith_abort s c
  · obtain ⟨b, hb⟩ := hpack hnone
    obtain ⟨hfail, hchan⟩ | ⟨hpass, -⟩ := chanCheck_cases chan
    · rw [encodeOperation_of_bad_channel hb hchan, Option.some.inj (hlast.symm.trans hfail)]
      exact endsWith_abort s _
    · exact (Option.some_ne_none c (hlast.symm.trans hpass)).elim

/-- An encode whose checks all pass has packed its message and has one of the two channels. -/
theorem packed_and_channel_of_valid {checks : List (Bool × Cause)} (hpack : firstFailure checks = none → ∃ b, packed = .ok b)
    (hvalid : firstFailure (checks ++ [chanCheck chan]) = none) :
    ∃ b ch, packed = .ok b ∧ chan = [ch] ∧ (ch = 0x41#8 ∨ ch = 0x42#8) := by
  obtain ⟨hchecks, hlast⟩ := firstFailure_append_eq_none.1 hvalid
  obtain ⟨b, hb⟩ := hpack hchecks
  obtain ⟨hfail, -⟩ | ⟨-, ch, hchan, hch⟩ := chanCheck_cases chan
  · exact (Option.some_ne_none _ (hfail.symm.trans hlast)).elim
  · exact ⟨b, ch, hb, hchan, hch⟩

end

/-! ### The evictions of SWEEP (R305) -/

theorem sweepTable_sweepTable (rt : List Entry) (t : Time) : sweepTable (sweepTable rt t) t = sweepTable rt t :=
  List.filter_eq_self.2 fun _ he => (List.mem_filter.1 he).2

theorem sweepCount_sweepTable (rt : List Entry) (t : Time) : sweepCount (sweepTable rt t) t = 0 := by
  rw [sweepCount, List.length_eq_zero_iff, List.filter_eq_nil_iff]
  intro e he hold
  exact absurd (age_lt_of_mem_sweepTable he) (Nat.not_lt.2 (of_decide_eq_true hold))

/-! ### The obligations of the host operations -/

/-- Settles O14: the attempt is PARSE and RSM.BYPASS on the table that RSM.EXPIRE leaves. -/
theorem decodeIsItsMicroOperations : Obligations.DecodeIsItsMicroOperations := by
  intro s line t
  refine ⟨_, s.withRt (expireTable s.rt t), parseInto (s.withRt (expireTable s.rt t)) line, rfl, rfl, rfl, rfl, rfl,
    fun c hc => ⟨_, rfl, ?_⟩, fun p hp => ?_⟩
  · rw [decodeAttempt_of_drop _ t hc, parseInto_of_error (s := s.withRt (expireTable s.rt t)) hc]
    exact ⟨rfl, rfl, rfl⟩
  · obtain ⟨u, hbypass, hrt, hresp⟩ := exec_rsmBypass_parsed (s := s.withRt (expireTable s.rt t)) t hp
    exact ⟨u, _, hbypass, rfl, congrArg (sweepTable · t) hrt.symm, hresp.symm⟩

/-- Settles O53: the checks decide between a fault and the lines, whose lengths the packed lengths give. -/
theorem encodesEmitLinesOrFault : Obligations.EncodesEmitLinesOrFault := by
  refine fun s d => ⟨fun op => ⟨fun c hc => endsWith_encodeOperation (posEncode_cases op) hc, fun hvalid => ?_⟩,
    fun op => ⟨fun c hc => endsWith_encodeOperation (statEncode_cases op) hc, fun hvalid => ?_⟩⟩
  · obtain ⟨b, ch, hb, hchan, hch⟩ := packed_and_channel_of_valid (posEncode_cases op).2 hvalid
    obtain ⟨p, -, -, h47, hlines⟩ := emtLines_of_posEncode hb hch
    exact ⟨_, _, congrArg Host.Outcome.next (encodeOperation_of_ok hb (hchan ▸ hlines d)), rfl, h47, rfl, rfl, rfl⟩
  · obtain ⟨b, ch, hb, hchan, hch⟩ := packed_and_channel_of_valid (statEncode_cases op).2 hvalid
    obtain ⟨p, hp, -, -⟩ := armPack_armor (armPad6 b)
    have hlen := length_of_armPack_statEncode hb hp
    have hlines := emtLines_of_two hp (by omega) (by omega) hch d
    obtain ⟨h80, h31⟩ := lineOfTwo_length hlen d ch
    exact ⟨_, _, _, congrArg Host.Outcome.next (encodeOperation_of_ok hb (hchan ▸ hlines)), rfl, h80, h31, rfl, rfl, rfl⟩

/-- Settles O1, along what the port holds; what decodes has passed the checks of its operands. -/
theorem stepRunsDecodedCommand : Obligations.StepRunsDecodedCommand :=
  fun _ => ⟨fun _ _ _ hport hdecode => ⟨wellFormed_iff.2 (wfError_of_decode_eq_ok hdecode), step_of_decode_ok hport hdecode⟩,
    step_of_idle, fun _ _ _ => step_of_decode_error⟩

/-- Settles O10: the one write of NOP is that of RESP. -/
theorem nopOnlyAnswersOk : Obligations.NopOnlyAnswersOk := fun _ => rfl

/-- Settles O11: the three codes have one meaning, whose one write is that of RESP. -/
theorem reservedCodesOnlyAnswerIllegal : Obligations.ReservedCodesOnlyAnswerIllegal := by
  intro s i hi
  have hrefuse : exec i s = .next (refuseOperation s) := by
    simp only [List.mem_cons, List.not_mem_nil, or_false] at hi
    rcases hi with rfl | rfl | rfl <;> rfl
  exact hrefuse

/-- Settles O12: what a SWEEP keeps is too young for a second one at the same time. -/
theorem sweepEvictsAndCounts : Obligations.SweepEvictsAndCounts := by
  refine fun s t => ⟨_, rfl, rfl, rfl, rfl, rfl, fun hempty => ?_, _, rfl, sweepTable_sweepTable s.rt t, ?_⟩
  · show (⟨.none, .ok, .count (sweepCount s.rt t)⟩ : Response) = _
    rw [hempty]
    rfl
  · exact congrArg (fun n => (⟨.none, .ok, .count n⟩ : Response)) (sweepCount_sweepTable s.rt t)

end Sys2Proof.Machine
end
